-- ==== Sys2Proof/Word.lean ====
section
/-! DEFINITION. The two word types of the core (rule R5 of 00_scope.md): bytes (A, X, Y, SP, a memory
cell) and 16-bit words (PC, addresses). Arithmetic on them wraps (rule R9). -/

namespace Sys2Proof

/-- An 8-bit value (rule R5): a register A, X, Y or SP, or a memory cell. -/
abbrev Byte := BitVec 8

/-- A 16-bit value (rule R5): PC or an address. -/
abbrev Word := BitVec 16

end Sys2Proof
end

