-- ==== Sys2Proof/Machine/Bits.lean ====
section
/-! DEFINITION. The bit-field, sign-extension and byte-order helpers of rules R7 and R8 (00_scope.md),
and the page test of rule R101 (40_addressing_modes.md). -/

namespace Sys2Proof

/-- `zext_16(v)` of rule R8. -/
def zext16 (v : Byte) : Word := v.setWidth 16

/-- `sext_16(v)` of rule R8. -/
def sext16 (v : Byte) : Word := v.signExtend 16

/-- The word `{hi, lo}` of rule R8, from its low and its high byte: the little-endian order of rule
R55 (20_memory.md) gives the low byte first. -/
def leWord (lo hi : Byte) : Word := hi ++ lo

/-- `v[7:0]` of a word (rule R7). -/
def loByte (v : Word) : Byte := v.extractLsb' 0 8

/-- `v[15:8]` of a word (rule R7). -/
def hiByte (v : Word) : Byte := v.extractLsb' 8 8

/-- One bit as a byte, for the packed status byte of rule R36. -/
def bitByte (b : Bool) : Byte := if b then 1 else 0

/-- `pageCross(base, ea)` of rule R101: the two addresses lie in different 256-byte pages. -/
def pageCross (base ea : Word) : Bool := (ea >>> 8) != (base >>> 8)

end Sys2Proof
end

