-- ==== Sys2Proof/Syntax.lean ====
section
/-! DEFINITION. The instructions of the core as syntax: the 56 mnemonics and 13 addressing modes of
rules R71 and R77 (30_encoding.md), and `Instr`, one constructor for each of the 151 rows of
spec/opcode_table.json. A constructor is named after its mnemonic and its mode (`ldaAbsx` is LDA in
mode ABSX; modes IMP and REL add nothing to the name) and carries its operand assembled as rule R81
says: a byte, or the little-endian word of two operand bytes. -/

namespace Sys2Proof

/-- The 56 mnemonics (rule R77). -/
inductive Mnemonic where
  | lda | ldx | ldy | sta | stx | sty
  | tax | tay | txa | tya | tsx | txs | pha | php | pla | plp
  | and | ora | eor | bit
  | inx | iny | dex | dey | inc | dec
  | adc | sbc | cmp | cpx | cpy
  | asl | lsr | rol | ror
  | jmp | jsr | rts | bcc | bcs | beq | bmi | bne | bpl | bvc | bvs
  | clc | cld | cli | clv | sec | sed | sei | nop | brk | rti
  deriving DecidableEq, Repr

/-- The 13 addressing modes (rule R71). -/
inductive Mode where
  | imp | acc | im | zp | zpx | zpy | abs | absx | absy | ind | indx | indy | rel
  deriving DecidableEq, Repr

/-- Number of operand bytes of a mode (rule R71: the length less the opcode byte). -/
def Mode.operandBytes : Mode → Nat
  | .imp | .acc => 0
  | .im | .zp | .zpx | .zpy | .indx | .indy | .rel => 1
  | .abs | .absx | .absy | .ind => 2

/-- The 151 instructions (rules R76 and R77, spec/opcode_table.json). -/
inductive Instr where
  -- Loads and stores
  /-- LDA IM (R160). -/
  | ldaIm (imm : Byte)
  /-- LDA ZP (R160). -/
  | ldaZp (zp : Byte)
  /-- LDA ZPX (R160). -/
  | ldaZpx (zp : Byte)
  /-- LDA ABS (R160). -/
  | ldaAbs (addr : Word)
  /-- LDA ABSX (R160). -/
  | ldaAbsx (base : Word)
  /-- LDA ABSY (R160). -/
  | ldaAbsy (base : Word)
  /-- LDA INDX (R160). -/
  | ldaIndx (zp : Byte)
  /-- LDA INDY (R160). -/
  | ldaIndy (zp : Byte)
  /-- LDX IM (R161). -/
  | ldxIm (imm : Byte)
  /-- LDX ZP (R161). -/
  | ldxZp (zp : Byte)
  /-- LDX ZPY (R161). -/
  | ldxZpy (zp : Byte)
  /-- LDX ABS (R161). -/
  | ldxAbs (addr : Word)
  /-- LDX ABSY (R161). -/
  | ldxAbsy (base : Word)
  /-- LDY IM (R162). -/
  | ldyIm (imm : Byte)
  /-- LDY ZP (R162). -/
  | ldyZp (zp : Byte)
  /-- LDY ZPX (R162). -/
  | ldyZpx (zp : Byte)
  /-- LDY ABS (R162). -/
  | ldyAbs (addr : Word)
  /-- LDY ABSX (R162). -/
  | ldyAbsx (base : Word)
  /-- STA ZP (R163). -/
  | staZp (zp : Byte)
  /-- STA ZPX (R163). -/
  | staZpx (zp : Byte)
  /-- STA ABS (R163). -/
  | staAbs (addr : Word)
  /-- STA ABSX (R163). -/
  | staAbsx (base : Word)
  /-- STA ABSY (R163). -/
  | staAbsy (base : Word)
  /-- STA INDX (R163). -/
  | staIndx (zp : Byte)
  /-- STA INDY (R163). -/
  | staIndy (zp : Byte)
  /-- STX ZP (R164). -/
  | stxZp (zp : Byte)
  /-- STX ZPY (R164). -/
  | stxZpy (zp : Byte)
  /-- STX ABS (R164). -/
  | stxAbs (addr : Word)
  /-- STY ZP (R165). -/
  | styZp (zp : Byte)
  /-- STY ZPX (R165). -/
  | styZpx (zp : Byte)
  /-- STY ABS (R165). -/
  | styAbs (addr : Word)
  -- Register transfers and stack
  /-- TAX IMP (R185). -/
  | tax
  /-- TAY IMP (R186). -/
  | tay
  /-- TXA IMP (R187). -/
  | txa
  /-- TYA IMP (R188). -/
  | tya
  /-- TSX IMP (R189). -/
  | tsx
  /-- TXS IMP (R190). -/
  | txs
  /-- PHA IMP (R191). -/
  | pha
  /-- PHP IMP (R192). -/
  | php
  /-- PLA IMP (R193). -/
  | pla
  /-- PLP IMP (R194). -/
  | plp
  -- Logical operations and bit test
  /-- AND IM (R200). -/
  | andIm (imm : Byte)
  /-- AND ZP (R200). -/
  | andZp (zp : Byte)
  /-- AND ZPX (R200). -/
  | andZpx (zp : Byte)
  /-- AND ABS (R200). -/
  | andAbs (addr : Word)
  /-- AND ABSX (R200). -/
  | andAbsx (base : Word)
  /-- AND ABSY (R200). -/
  | andAbsy (base : Word)
  /-- AND INDX (R200). -/
  | andIndx (zp : Byte)
  /-- AND INDY (R200). -/
  | andIndy (zp : Byte)
  /-- ORA IM (R201). -/
  | oraIm (imm : Byte)
  /-- ORA ZP (R201). -/
  | oraZp (zp : Byte)
  /-- ORA ZPX (R201). -/
  | oraZpx (zp : Byte)
  /-- ORA ABS (R201). -/
  | oraAbs (addr : Word)
  /-- ORA ABSX (R201). -/
  | oraAbsx (base : Word)
  /-- ORA ABSY (R201). -/
  | oraAbsy (base : Word)
  /-- ORA INDX (R201). -/
  | oraIndx (zp : Byte)
  /-- ORA INDY (R201). -/
  | oraIndy (zp : Byte)
  /-- EOR IM (R202). -/
  | eorIm (imm : Byte)
  /-- EOR ZP (R202). -/
  | eorZp (zp : Byte)
  /-- EOR ZPX (R202). -/
  | eorZpx (zp : Byte)
  /-- EOR ABS (R202). -/
  | eorAbs (addr : Word)
  /-- EOR ABSX (R202). -/
  | eorAbsx (base : Word)
  /-- EOR ABSY (R202). -/
  | eorAbsy (base : Word)
  /-- EOR INDX (R202). -/
  | eorIndx (zp : Byte)
  /-- EOR INDY (R202). -/
  | eorIndy (zp : Byte)
  /-- BIT ZP (R203). -/
  | bitZp (zp : Byte)
  /-- BIT ABS (R203). -/
  | bitAbs (addr : Word)
  -- Increments and decrements
  /-- INX IMP (R220). -/
  | inx
  /-- INY IMP (R221). -/
  | iny
  /-- DEX IMP (R222). -/
  | dex
  /-- DEY IMP (R223). -/
  | dey
  /-- INC ZP (R224). -/
  | incZp (zp : Byte)
  /-- INC ZPX (R224). -/
  | incZpx (zp : Byte)
  /-- INC ABS (R224). -/
  | incAbs (addr : Word)
  /-- INC ABSX (R224). -/
  | incAbsx (base : Word)
  /-- DEC ZP (R225). -/
  | decZp (zp : Byte)
  /-- DEC ZPX (R225). -/
  | decZpx (zp : Byte)
  /-- DEC ABS (R225). -/
  | decAbs (addr : Word)
  /-- DEC ABSX (R225). -/
  | decAbsx (base : Word)
  -- Addition, subtraction and compare
  /-- ADC IM (R240). -/
  | adcIm (imm : Byte)
  /-- ADC ZP (R240). -/
  | adcZp (zp : Byte)
  /-- ADC ZPX (R240). -/
  | adcZpx (zp : Byte)
  /-- ADC ABS (R240). -/
  | adcAbs (addr : Word)
  /-- ADC ABSX (R240). -/
  | adcAbsx (base : Word)
  /-- ADC ABSY (R240). -/
  | adcAbsy (base : Word)
  /-- ADC INDX (R240). -/
  | adcIndx (zp : Byte)
  /-- ADC INDY (R240). -/
  | adcIndy (zp : Byte)
  /-- SBC IM (R241). -/
  | sbcIm (imm : Byte)
  /-- SBC ZP (R241). -/
  | sbcZp (zp : Byte)
  /-- SBC ZPX (R241). -/
  | sbcZpx (zp : Byte)
  /-- SBC ABS (R241). -/
  | sbcAbs (addr : Word)
  /-- SBC ABSX (R241). -/
  | sbcAbsx (base : Word)
  /-- SBC ABSY (R241). -/
  | sbcAbsy (base : Word)
  /-- SBC INDX (R241). -/
  | sbcIndx (zp : Byte)
  /-- SBC INDY (R241). -/
  | sbcIndy (zp : Byte)
  /-- CMP IM (R242). -/
  | cmpIm (imm : Byte)
  /-- CMP ZP (R242). -/
  | cmpZp (zp : Byte)
  /-- CMP ZPX (R242). -/
  | cmpZpx (zp : Byte)
  /-- CMP ABS (R242). -/
  | cmpAbs (addr : Word)
  /-- CMP ABSX (R242). -/
  | cmpAbsx (base : Word)
  /-- CMP ABSY (R242). -/
  | cmpAbsy (base : Word)
  /-- CMP INDX (R242). -/
  | cmpIndx (zp : Byte)
  /-- CMP INDY (R242). -/
  | cmpIndy (zp : Byte)
  /-- CPX IM (R243). -/
  | cpxIm (imm : Byte)
  /-- CPX ZP (R243). -/
  | cpxZp (zp : Byte)
  /-- CPX ABS (R243). -/
  | cpxAbs (addr : Word)
  /-- CPY IM (R244). -/
  | cpyIm (imm : Byte)
  /-- CPY ZP (R244). -/
  | cpyZp (zp : Byte)
  /-- CPY ABS (R244). -/
  | cpyAbs (addr : Word)
  -- Shifts and rotates
  /-- ASL ACC (R260). -/
  | aslAcc
  /-- ASL ZP (R260). -/
  | aslZp (zp : Byte)
  /-- ASL ZPX (R260). -/
  | aslZpx (zp : Byte)
  /-- ASL ABS (R260). -/
  | aslAbs (addr : Word)
  /-- ASL ABSX (R260). -/
  | aslAbsx (base : Word)
  /-- LSR ACC (R261). -/
  | lsrAcc
  /-- LSR ZP (R261). -/
  | lsrZp (zp : Byte)
  /-- LSR ZPX (R261). -/
  | lsrZpx (zp : Byte)
  /-- LSR ABS (R261). -/
  | lsrAbs (addr : Word)
  /-- LSR ABSX (R261). -/
  | lsrAbsx (base : Word)
  /-- ROL ACC (R262). -/
  | rolAcc
  /-- ROL ZP (R262). -/
  | rolZp (zp : Byte)
  /-- ROL ZPX (R262). -/
  | rolZpx (zp : Byte)
  /-- ROL ABS (R262). -/
  | rolAbs (addr : Word)
  /-- ROL ABSX (R262). -/
  | rolAbsx (base : Word)
  /-- ROR ACC (R263). -/
  | rorAcc
  /-- ROR ZP (R263). -/
  | rorZp (zp : Byte)
  /-- ROR ZPX (R263). -/
  | rorZpx (zp : Byte)
  /-- ROR ABS (R263). -/
  | rorAbs (addr : Word)
  /-- ROR ABSX (R263). -/
  | rorAbsx (base : Word)
  -- Jumps, calls and branches
  /-- JMP ABS (R280). -/
  | jmpAbs (addr : Word)
  /-- JMP IND (R280). -/
  | jmpInd (ptr : Word)
  /-- JSR ABS (R281). -/
  | jsrAbs (addr : Word)
  /-- RTS IMP (R282). -/
  | rts
  /-- BCC REL (R284). -/
  | bcc (disp : Byte)
  /-- BCS REL (R285). -/
  | bcs (disp : Byte)
  /-- BEQ REL (R286). -/
  | beq (disp : Byte)
  /-- BMI REL (R287). -/
  | bmi (disp : Byte)
  /-- BNE REL (R288). -/
  | bne (disp : Byte)
  /-- BPL REL (R289). -/
  | bpl (disp : Byte)
  /-- BVC REL (R290). -/
  | bvc (disp : Byte)
  /-- BVS REL (R291). -/
  | bvs (disp : Byte)
  -- Flag operations, no-operation, trap and return
  /-- CLC IMP (R310). -/
  | clc
  /-- CLD IMP (R311). -/
  | cld
  /-- CLI IMP (R312). -/
  | cli
  /-- CLV IMP (R313). -/
  | clv
  /-- SEC IMP (R314). -/
  | sec
  /-- SED IMP (R315). -/
  | sed
  /-- SEI IMP (R316). -/
  | sei
  /-- NOP IMP (R317). -/
  | nop
  /-- BRK IMP (R318). -/
  | brk
  /-- RTI IMP (R319). -/
  | rti
  deriving DecidableEq, Repr

/-- The mnemonic of an instruction (the rows of rule R77). -/
def Instr.mnemonic : Instr → Mnemonic
  | .ldaIm _ | .ldaZp _ | .ldaZpx _ | .ldaAbs _ | .ldaAbsx _ | .ldaAbsy _ | .ldaIndx _ | .ldaIndy _ => .lda
  | .ldxIm _ | .ldxZp _ | .ldxZpy _ | .ldxAbs _ | .ldxAbsy _ => .ldx
  | .ldyIm _ | .ldyZp _ | .ldyZpx _ | .ldyAbs _ | .ldyAbsx _ => .ldy
  | .staZp _ | .staZpx _ | .staAbs _ | .staAbsx _ | .staAbsy _ | .staIndx _ | .staIndy _ => .sta
  | .stxZp _ | .stxZpy _ | .stxAbs _ => .stx
  | .styZp _ | .styZpx _ | .styAbs _ => .sty
  | .tax => .tax
  | .tay => .tay
  | .txa => .txa
  | .tya => .tya
  | .tsx => .tsx
  | .txs => .txs
  | .pha => .pha
  | .php => .php
  | .pla => .pla
  | .plp => .plp
  | .andIm _ | .andZp _ | .andZpx _ | .andAbs _ | .andAbsx _ | .andAbsy _ | .andIndx _ | .andIndy _ => .and
  | .oraIm _ | .oraZp _ | .oraZpx _ | .oraAbs _ | .oraAbsx _ | .oraAbsy _ | .oraIndx _ | .oraIndy _ => .ora
  | .eorIm _ | .eorZp _ | .eorZpx _ | .eorAbs _ | .eorAbsx _ | .eorAbsy _ | .eorIndx _ | .eorIndy _ => .eor
  | .bitZp _ | .bitAbs _ => .bit
  | .inx => .inx
  | .iny => .iny
  | .dex => .dex
  | .dey => .dey
  | .incZp _ | .incZpx _ | .incAbs _ | .incAbsx _ => .inc
  | .decZp _ | .decZpx _ | .decAbs _ | .decAbsx _ => .dec
  | .adcIm _ | .adcZp _ | .adcZpx _ | .adcAbs _ | .adcAbsx _ | .adcAbsy _ | .adcIndx _ | .adcIndy _ => .adc
  | .sbcIm _ | .sbcZp _ | .sbcZpx _ | .sbcAbs _ | .sbcAbsx _ | .sbcAbsy _ | .sbcIndx _ | .sbcIndy _ => .sbc
  | .cmpIm _ | .cmpZp _ | .cmpZpx _ | .cmpAbs _ | .cmpAbsx _ | .cmpAbsy _ | .cmpIndx _ | .cmpIndy _ => .cmp
  | .cpxIm _ | .cpxZp _ | .cpxAbs _ => .cpx
  | .cpyIm _ | .cpyZp _ | .cpyAbs _ => .cpy
  | .aslAcc | .aslZp _ | .aslZpx _ | .aslAbs _ | .aslAbsx _ => .asl
  | .lsrAcc | .lsrZp _ | .lsrZpx _ | .lsrAbs _ | .lsrAbsx _ => .lsr
  | .rolAcc | .rolZp _ | .rolZpx _ | .rolAbs _ | .rolAbsx _ => .rol
  | .rorAcc | .rorZp _ | .rorZpx _ | .rorAbs _ | .rorAbsx _ => .ror
  | .jmpAbs _ | .jmpInd _ => .jmp
  | .jsrAbs _ => .jsr
  | .rts => .rts
  | .bcc _ => .bcc
  | .bcs _ => .bcs
  | .beq _ => .beq
  | .bmi _ => .bmi
  | .bne _ => .bne
  | .bpl _ => .bpl
  | .bvc _ => .bvc
  | .bvs _ => .bvs
  | .clc => .clc
  | .cld => .cld
  | .cli => .cli
  | .clv => .clv
  | .sec => .sec
  | .sed => .sed
  | .sei => .sei
  | .nop => .nop
  | .brk => .brk
  | .rti => .rti

/-- The addressing mode of an instruction (the columns of rule R77). -/
def Instr.mode : Instr → Mode
  | .tax | .tay | .txa | .tya | .tsx | .txs
  | .pha | .php | .pla | .plp | .inx | .iny
  | .dex | .dey | .rts | .clc | .cld | .cli
  | .clv | .sec | .sed | .sei | .nop | .brk
  | .rti => .imp
  | .aslAcc | .lsrAcc | .rolAcc | .rorAcc => .acc
  | .ldaIm _ | .ldxIm _ | .ldyIm _ | .andIm _ | .oraIm _ | .eorIm _
  | .adcIm _ | .sbcIm _ | .cmpIm _ | .cpxIm _ | .cpyIm _ => .im
  | .ldaZp _ | .ldxZp _ | .ldyZp _ | .staZp _ | .stxZp _ | .styZp _
  | .andZp _ | .oraZp _ | .eorZp _ | .bitZp _ | .incZp _ | .decZp _
  | .adcZp _ | .sbcZp _ | .cmpZp _ | .cpxZp _ | .cpyZp _ | .aslZp _
  | .lsrZp _ | .rolZp _ | .rorZp _ => .zp
  | .ldaZpx _ | .ldyZpx _ | .staZpx _ | .styZpx _ | .andZpx _ | .oraZpx _
  | .eorZpx _ | .incZpx _ | .decZpx _ | .adcZpx _ | .sbcZpx _ | .cmpZpx _
  | .aslZpx _ | .lsrZpx _ | .rolZpx _ | .rorZpx _ => .zpx
  | .ldxZpy _ | .stxZpy _ => .zpy
  | .ldaAbs _ | .ldxAbs _ | .ldyAbs _ | .staAbs _ | .stxAbs _ | .styAbs _
  | .andAbs _ | .oraAbs _ | .eorAbs _ | .bitAbs _ | .incAbs _ | .decAbs _
  | .adcAbs _ | .sbcAbs _ | .cmpAbs _ | .cpxAbs _ | .cpyAbs _ | .aslAbs _
  | .lsrAbs _ | .rolAbs _ | .rorAbs _ | .jmpAbs _ | .jsrAbs _ => .abs
  | .ldaAbsx _ | .ldyAbsx _ | .staAbsx _ | .andAbsx _ | .oraAbsx _ | .eorAbsx _
  | .incAbsx _ | .decAbsx _ | .adcAbsx _ | .sbcAbsx _ | .cmpAbsx _ | .aslAbsx _
  | .lsrAbsx _ | .rolAbsx _ | .rorAbsx _ => .absx
  | .ldaAbsy _ | .ldxAbsy _ | .staAbsy _ | .andAbsy _ | .oraAbsy _ | .eorAbsy _
  | .adcAbsy _ | .sbcAbsy _ | .cmpAbsy _ => .absy
  | .jmpInd _ => .ind
  | .ldaIndx _ | .staIndx _ | .andIndx _ | .oraIndx _ | .eorIndx _ | .adcIndx _
  | .sbcIndx _ | .cmpIndx _ => .indx
  | .ldaIndy _ | .staIndy _ | .andIndy _ | .oraIndy _ | .eorIndy _ | .adcIndy _
  | .sbcIndy _ | .cmpIndy _ => .indy
  | .bcc _ | .bcs _ | .beq _ | .bmi _ | .bne _ | .bpl _
  | .bvc _ | .bvs _ => .rel

/-- The length of an instruction in bytes: its opcode byte and its operand bytes (rules R70, R71). -/
def Instr.length (i : Instr) : Nat := 1 + i.mode.operandBytes

end Sys2Proof
end

