-- ==== Sys2Proof/WellFormed.lean ====
section
/-! DEFINITION. Checks on what is not well formed by its type. Every term of `Instr` is well formed:
its operands are a `Byte` or a `Word`, exactly the values its operand bytes can hold (rules R71 and R81
of 30_encoding.md), so nothing is left to check there. What can be ill formed is a string of bytes taken
as ONE instruction (an undefined opcode byte, a wrong number of operand bytes), and a loader's image. -/

namespace Sys2Proof

/-- The 105 undefined opcode bytes, as rule R79 (30_encoding.md) lists them. -/
def undefinedOpcodes : List Byte :=
  [0x02, 0x03, 0x04, 0x07, 0x0B, 0x0C, 0x0F, 0x12, 0x13, 0x14, 0x17, 0x1A, 0x1B, 0x1C, 0x1F] ++
  [0x22, 0x23, 0x27, 0x2B, 0x2F, 0x32, 0x33, 0x34, 0x37, 0x3A, 0x3B, 0x3C, 0x3F, 0x42, 0x43] ++
  [0x44, 0x47, 0x4B, 0x4F, 0x52, 0x53, 0x54, 0x57, 0x5A, 0x5B, 0x5C, 0x5F, 0x62, 0x63, 0x64] ++
  [0x67, 0x6B, 0x6F, 0x72, 0x73, 0x74, 0x77, 0x7A, 0x7B, 0x7C, 0x7F, 0x80, 0x82, 0x83, 0x87] ++
  [0x89, 0x8B, 0x8F, 0x92, 0x93, 0x97, 0x9B, 0x9C, 0x9E, 0x9F, 0xA3, 0xA7, 0xAB, 0xAF, 0xB2] ++
  [0xB3, 0xB7, 0xBB, 0xBF, 0xC2, 0xC3, 0xC7, 0xCB, 0xCF, 0xD2, 0xD3, 0xD4, 0xD7, 0xDA, 0xDB] ++
  [0xDC, 0xDF, 0xE2, 0xE3, 0xE7, 0xEB, 0xEF, 0xF2, 0xF3, 0xF4, 0xF7, 0xFA, 0xFB, 0xFC, 0xFF]

/-- The length of the instruction that a defined opcode byte begins, read off the column (low nibble)
and the row (high nibble) of rule R76's map with the lengths of rule R71. DEDUCED: the spec gives the
length by mode; for an undefined byte the value means nothing. -/
def opcodeLength (op : Byte) : Nat :=
  match op.toNat % 16 with
  | 0x0 => if op = 0x00 ∨ op = 0x40 ∨ op = 0x60 then 1 else if op = 0x20 then 3 else 2
  | 0x8 | 0xA => 1
  | 0x9 => if op.toNat / 16 % 2 = 0 then 2 else 3
  | 0xC | 0xD | 0xE => 3
  | _ => 2

/-- The bytes are exactly one instruction: a defined opcode byte (R79) and as many operand bytes as its
mode has (R70, R71). -/
def wellFormedBytes : List Byte → Bool
  | [] => false
  | op :: operands => !undefinedOpcodes.contains op && operands.length + 1 == opcodeLength op

/-- A loader's image has its two address bytes (rule R373 of 70_reset_and_hazards.md). -/
def wellFormedImage (image : List Byte) : Bool := 2 ≤ image.length

end Sys2Proof
end

