-- ==== Sys2Proof/Decode.lean ====
section
/-! DEFINITION. The decoder, from rule R76's map (opcode byte by row and column), total on any bytes and
refusing by name; and the encoder, from rule R77's table (opcode byte by mnemonic and mode). The opcode
bytes are PRESUMED by the spec itself but for the eight of rule R78 (K1 of 93_implementation_defined.md;
log entry 7). -/

namespace Sys2Proof

/-- Why bytes are no instruction. -/
inductive DecodeReject where
  /-- There is no opcode byte. -/
  | empty
  /-- The opcode byte is one of the 105 undefined ones (rule R79). -/
  | undefinedOpcode (opcode : Byte)
  /-- The opcode byte is defined and operand bytes are missing (rule R70). -/
  | truncated (opcode : Byte)
  deriving DecidableEq, Repr

/-- Row 0x of rule R76. -/
def decodeRow0 (column : Nat) (b1 b2 : Byte) : Option Instr :=
  match column with
  | 0x0 => some .brk
  | 0x1 => some (.oraIndx b1)
  | 0x5 => some (.oraZp b1)
  | 0x6 => some (.aslZp b1)
  | 0x8 => some .php
  | 0x9 => some (.oraIm b1)
  | 0xA => some .aslAcc
  | 0xD => some (.oraAbs (leWord b1 b2))
  | 0xE => some (.aslAbs (leWord b1 b2))
  | _ => none

/-- Row 1x of rule R76. -/
def decodeRow1 (column : Nat) (b1 b2 : Byte) : Option Instr :=
  match column with
  | 0x0 => some (.bpl b1)
  | 0x1 => some (.oraIndy b1)
  | 0x5 => some (.oraZpx b1)
  | 0x6 => some (.aslZpx b1)
  | 0x8 => some .clc
  | 0x9 => some (.oraAbsy (leWord b1 b2))
  | 0xD => some (.oraAbsx (leWord b1 b2))
  | 0xE => some (.aslAbsx (leWord b1 b2))
  | _ => none

/-- Row 2x of rule R76. -/
def decodeRow2 (column : Nat) (b1 b2 : Byte) : Option Instr :=
  match column with
  | 0x0 => some (.jsrAbs (leWord b1 b2))
  | 0x1 => some (.andIndx b1)
  | 0x4 => some (.bitZp b1)
  | 0x5 => some (.andZp b1)
  | 0x6 => some (.rolZp b1)
  | 0x8 => some .plp
  | 0x9 => some (.andIm b1)
  | 0xA => some .rolAcc
  | 0xC => some (.bitAbs (leWord b1 b2))
  | 0xD => some (.andAbs (leWord b1 b2))
  | 0xE => some (.rolAbs (leWord b1 b2))
  | _ => none

/-- Row 3x of rule R76. -/
def decodeRow3 (column : Nat) (b1 b2 : Byte) : Option Instr :=
  match column with
  | 0x0 => some (.bmi b1)
  | 0x1 => some (.andIndy b1)
  | 0x5 => some (.andZpx b1)
  | 0x6 => some (.rolZpx b1)
  | 0x8 => some .sec
  | 0x9 => some (.andAbsy (leWord b1 b2))
  | 0xD => some (.andAbsx (leWord b1 b2))
  | 0xE => some (.rolAbsx (leWord b1 b2))
  | _ => none

/-- Row 4x of rule R76. -/
def decodeRow4 (column : Nat) (b1 b2 : Byte) : Option Instr :=
  match column with
  | 0x0 => some .rti
  | 0x1 => some (.eorIndx b1)
  | 0x5 => some (.eorZp b1)
  | 0x6 => some (.lsrZp b1)
  | 0x8 => some .pha
  | 0x9 => some (.eorIm b1)
  | 0xA => some .lsrAcc
  | 0xC => some (.jmpAbs (leWord b1 b2))
  | 0xD => some (.eorAbs (leWord b1 b2))
  | 0xE => some (.lsrAbs (leWord b1 b2))
  | _ => none

/-- Row 5x of rule R76. -/
def decodeRow5 (column : Nat) (b1 b2 : Byte) : Option Instr :=
  match column with
  | 0x0 => some (.bvc b1)
  | 0x1 => some (.eorIndy b1)
  | 0x5 => some (.eorZpx b1)
  | 0x6 => some (.lsrZpx b1)
  | 0x8 => some .cli
  | 0x9 => some (.eorAbsy (leWord b1 b2))
  | 0xD => some (.eorAbsx (leWord b1 b2))
  | 0xE => some (.lsrAbsx (leWord b1 b2))
  | _ => none

/-- Row 6x of rule R76. -/
def decodeRow6 (column : Nat) (b1 b2 : Byte) : Option Instr :=
  match column with
  | 0x0 => some .rts
  | 0x1 => some (.adcIndx b1)
  | 0x5 => some (.adcZp b1)
  | 0x6 => some (.rorZp b1)
  | 0x8 => some .pla
  | 0x9 => some (.adcIm b1)
  | 0xA => some .rorAcc
  | 0xC => some (.jmpInd (leWord b1 b2))
  | 0xD => some (.adcAbs (leWord b1 b2))
  | 0xE => some (.rorAbs (leWord b1 b2))
  | _ => none

/-- Row 7x of rule R76. -/
def decodeRow7 (column : Nat) (b1 b2 : Byte) : Option Instr :=
  match column with
  | 0x0 => some (.bvs b1)
  | 0x1 => some (.adcIndy b1)
  | 0x5 => some (.adcZpx b1)
  | 0x6 => some (.rorZpx b1)
  | 0x8 => some .sei
  | 0x9 => some (.adcAbsy (leWord b1 b2))
  | 0xD => some (.adcAbsx (leWord b1 b2))
  | 0xE => some (.rorAbsx (leWord b1 b2))
  | _ => none

/-- Row 8x of rule R76. -/
def decodeRow8 (column : Nat) (b1 b2 : Byte) : Option Instr :=
  match column with
  | 0x1 => some (.staIndx b1)
  | 0x4 => some (.styZp b1)
  | 0x5 => some (.staZp b1)
  | 0x6 => some (.stxZp b1)
  | 0x8 => some .dey
  | 0xA => some .txa
  | 0xC => some (.styAbs (leWord b1 b2))
  | 0xD => some (.staAbs (leWord b1 b2))
  | 0xE => some (.stxAbs (leWord b1 b2))
  | _ => none

/-- Row 9x of rule R76. -/
def decodeRow9 (column : Nat) (b1 b2 : Byte) : Option Instr :=
  match column with
  | 0x0 => some (.bcc b1)
  | 0x1 => some (.staIndy b1)
  | 0x4 => some (.styZpx b1)
  | 0x5 => some (.staZpx b1)
  | 0x6 => some (.stxZpy b1)
  | 0x8 => some .tya
  | 0x9 => some (.staAbsy (leWord b1 b2))
  | 0xA => some .txs
  | 0xD => some (.staAbsx (leWord b1 b2))
  | _ => none

/-- Row Ax of rule R76. -/
def decodeRowA (column : Nat) (b1 b2 : Byte) : Option Instr :=
  match column with
  | 0x0 => some (.ldyIm b1)
  | 0x1 => some (.ldaIndx b1)
  | 0x2 => some (.ldxIm b1)
  | 0x4 => some (.ldyZp b1)
  | 0x5 => some (.ldaZp b1)
  | 0x6 => some (.ldxZp b1)
  | 0x8 => some .tay
  | 0x9 => some (.ldaIm b1)
  | 0xA => some .tax
  | 0xC => some (.ldyAbs (leWord b1 b2))
  | 0xD => some (.ldaAbs (leWord b1 b2))
  | 0xE => some (.ldxAbs (leWord b1 b2))
  | _ => none

/-- Row Bx of rule R76. -/
def decodeRowB (column : Nat) (b1 b2 : Byte) : Option Instr :=
  match column with
  | 0x0 => some (.bcs b1)
  | 0x1 => some (.ldaIndy b1)
  | 0x4 => some (.ldyZpx b1)
  | 0x5 => some (.ldaZpx b1)
  | 0x6 => some (.ldxZpy b1)
  | 0x8 => some .clv
  | 0x9 => some (.ldaAbsy (leWord b1 b2))
  | 0xA => some .tsx
  | 0xC => some (.ldyAbsx (leWord b1 b2))
  | 0xD => some (.ldaAbsx (leWord b1 b2))
  | 0xE => some (.ldxAbsy (leWord b1 b2))
  | _ => none

/-- Row Cx of rule R76. -/
def decodeRowC (column : Nat) (b1 b2 : Byte) : Option Instr :=
  match column with
  | 0x0 => some (.cpyIm b1)
  | 0x1 => some (.cmpIndx b1)
  | 0x4 => some (.cpyZp b1)
  | 0x5 => some (.cmpZp b1)
  | 0x6 => some (.decZp b1)
  | 0x8 => some .iny
  | 0x9 => some (.cmpIm b1)
  | 0xA => some .dex
  | 0xC => some (.cpyAbs (leWord b1 b2))
  | 0xD => some (.cmpAbs (leWord b1 b2))
  | 0xE => some (.decAbs (leWord b1 b2))
  | _ => none

/-- Row Dx of rule R76. -/
def decodeRowD (column : Nat) (b1 b2 : Byte) : Option Instr :=
  match column with
  | 0x0 => some (.bne b1)
  | 0x1 => some (.cmpIndy b1)
  | 0x5 => some (.cmpZpx b1)
  | 0x6 => some (.decZpx b1)
  | 0x8 => some .cld
  | 0x9 => some (.cmpAbsy (leWord b1 b2))
  | 0xD => some (.cmpAbsx (leWord b1 b2))
  | 0xE => some (.decAbsx (leWord b1 b2))
  | _ => none

/-- Row Ex of rule R76. -/
def decodeRowE (column : Nat) (b1 b2 : Byte) : Option Instr :=
  match column with
  | 0x0 => some (.cpxIm b1)
  | 0x1 => some (.sbcIndx b1)
  | 0x4 => some (.cpxZp b1)
  | 0x5 => some (.sbcZp b1)
  | 0x6 => some (.incZp b1)
  | 0x8 => some .inx
  | 0x9 => some (.sbcIm b1)
  | 0xA => some .nop
  | 0xC => some (.cpxAbs (leWord b1 b2))
  | 0xD => some (.sbcAbs (leWord b1 b2))
  | 0xE => some (.incAbs (leWord b1 b2))
  | _ => none

/-- Row Fx of rule R76. -/
def decodeRowF (column : Nat) (b1 b2 : Byte) : Option Instr :=
  match column with
  | 0x0 => some (.beq b1)
  | 0x1 => some (.sbcIndy b1)
  | 0x5 => some (.sbcZpx b1)
  | 0x6 => some (.incZpx b1)
  | 0x8 => some .sed
  | 0x9 => some (.sbcAbsy (leWord b1 b2))
  | 0xD => some (.sbcAbsx (leWord b1 b2))
  | 0xE => some (.incAbsx (leWord b1 b2))
  | _ => none
/-- The decoder of rule R75: the instruction that the opcode byte names, with its operand assembled from
the two bytes after it (R81); `none` exactly where rule R76 says undefined. Bytes past the instruction's
length are not used. -/
def decodeOpcode (op b1 b2 : Byte) : Option Instr :=
  match op.toNat / 16 with
  | 0x0 => decodeRow0 (op.toNat % 16) b1 b2
  | 0x1 => decodeRow1 (op.toNat % 16) b1 b2
  | 0x2 => decodeRow2 (op.toNat % 16) b1 b2
  | 0x3 => decodeRow3 (op.toNat % 16) b1 b2
  | 0x4 => decodeRow4 (op.toNat % 16) b1 b2
  | 0x5 => decodeRow5 (op.toNat % 16) b1 b2
  | 0x6 => decodeRow6 (op.toNat % 16) b1 b2
  | 0x7 => decodeRow7 (op.toNat % 16) b1 b2
  | 0x8 => decodeRow8 (op.toNat % 16) b1 b2
  | 0x9 => decodeRow9 (op.toNat % 16) b1 b2
  | 0xA => decodeRowA (op.toNat % 16) b1 b2
  | 0xB => decodeRowB (op.toNat % 16) b1 b2
  | 0xC => decodeRowC (op.toNat % 16) b1 b2
  | 0xD => decodeRowD (op.toNat % 16) b1 b2
  | 0xE => decodeRowE (op.toNat % 16) b1 b2
  | _ => decodeRowF (op.toNat % 16) b1 b2

/-- The first instruction of a string of bytes and the bytes after it, or why there is none. -/
def decode : List Byte → Except DecodeReject (Instr × List Byte)
  | [] => .error .empty
  | op :: rest =>
    match decodeOpcode op (rest.getD 0 0) (rest.getD 1 0) with
    | none => .error (.undefinedOpcode op)
    | some i =>
      if rest.length < i.mode.operandBytes then .error (.truncated op)
      else .ok (i, rest.drop i.mode.operandBytes)

/-- The bytes of an instruction: its opcode byte by rule R77, then its operand, a word low byte first
(R71, R81). -/
def encode : Instr → List Byte
  | .ldaIm imm => [0xA9, imm]
  | .ldaZp zp => [0xA5, zp]
  | .ldaZpx zp => [0xB5, zp]
  | .ldaAbs addr => [0xAD, loByte addr, hiByte addr]
  | .ldaAbsx base => [0xBD, loByte base, hiByte base]
  | .ldaAbsy base => [0xB9, loByte base, hiByte base]
  | .ldaIndx zp => [0xA1, zp]
  | .ldaIndy zp => [0xB1, zp]
  | .ldxIm imm => [0xA2, imm]
  | .ldxZp zp => [0xA6, zp]
  | .ldxZpy zp => [0xB6, zp]
  | .ldxAbs addr => [0xAE, loByte addr, hiByte addr]
  | .ldxAbsy base => [0xBE, loByte base, hiByte base]
  | .ldyIm imm => [0xA0, imm]
  | .ldyZp zp => [0xA4, zp]
  | .ldyZpx zp => [0xB4, zp]
  | .ldyAbs addr => [0xAC, loByte addr, hiByte addr]
  | .ldyAbsx base => [0xBC, loByte base, hiByte base]
  | .staZp zp => [0x85, zp]
  | .staZpx zp => [0x95, zp]
  | .staAbs addr => [0x8D, loByte addr, hiByte addr]
  | .staAbsx base => [0x9D, loByte base, hiByte base]
  | .staAbsy base => [0x99, loByte base, hiByte base]
  | .staIndx zp => [0x81, zp]
  | .staIndy zp => [0x91, zp]
  | .stxZp zp => [0x86, zp]
  | .stxZpy zp => [0x96, zp]
  | .stxAbs addr => [0x8E, loByte addr, hiByte addr]
  | .styZp zp => [0x84, zp]
  | .styZpx zp => [0x94, zp]
  | .styAbs addr => [0x8C, loByte addr, hiByte addr]
  | .tax => [0xAA]
  | .tay => [0xA8]
  | .txa => [0x8A]
  | .tya => [0x98]
  | .tsx => [0xBA]
  | .txs => [0x9A]
  | .pha => [0x48]
  | .php => [0x08]
  | .pla => [0x68]
  | .plp => [0x28]
  | .andIm imm => [0x29, imm]
  | .andZp zp => [0x25, zp]
  | .andZpx zp => [0x35, zp]
  | .andAbs addr => [0x2D, loByte addr, hiByte addr]
  | .andAbsx base => [0x3D, loByte base, hiByte base]
  | .andAbsy base => [0x39, loByte base, hiByte base]
  | .andIndx zp => [0x21, zp]
  | .andIndy zp => [0x31, zp]
  | .oraIm imm => [0x09, imm]
  | .oraZp zp => [0x05, zp]
  | .oraZpx zp => [0x15, zp]
  | .oraAbs addr => [0x0D, loByte addr, hiByte addr]
  | .oraAbsx base => [0x1D, loByte base, hiByte base]
  | .oraAbsy base => [0x19, loByte base, hiByte base]
  | .oraIndx zp => [0x01, zp]
  | .oraIndy zp => [0x11, zp]
  | .eorIm imm => [0x49, imm]
  | .eorZp zp => [0x45, zp]
  | .eorZpx zp => [0x55, zp]
  | .eorAbs addr => [0x4D, loByte addr, hiByte addr]
  | .eorAbsx base => [0x5D, loByte base, hiByte base]
  | .eorAbsy base => [0x59, loByte base, hiByte base]
  | .eorIndx zp => [0x41, zp]
  | .eorIndy zp => [0x51, zp]
  | .bitZp zp => [0x24, zp]
  | .bitAbs addr => [0x2C, loByte addr, hiByte addr]
  | .inx => [0xE8]
  | .iny => [0xC8]
  | .dex => [0xCA]
  | .dey => [0x88]
  | .incZp zp => [0xE6, zp]
  | .incZpx zp => [0xF6, zp]
  | .incAbs addr => [0xEE, loByte addr, hiByte addr]
  | .incAbsx base => [0xFE, loByte base, hiByte base]
  | .decZp zp => [0xC6, zp]
  | .decZpx zp => [0xD6, zp]
  | .decAbs addr => [0xCE, loByte addr, hiByte addr]
  | .decAbsx base => [0xDE, loByte base, hiByte base]
  | .adcIm imm => [0x69, imm]
  | .adcZp zp => [0x65, zp]
  | .adcZpx zp => [0x75, zp]
  | .adcAbs addr => [0x6D, loByte addr, hiByte addr]
  | .adcAbsx base => [0x7D, loByte base, hiByte base]
  | .adcAbsy base => [0x79, loByte base, hiByte base]
  | .adcIndx zp => [0x61, zp]
  | .adcIndy zp => [0x71, zp]
  | .sbcIm imm => [0xE9, imm]
  | .sbcZp zp => [0xE5, zp]
  | .sbcZpx zp => [0xF5, zp]
  | .sbcAbs addr => [0xED, loByte addr, hiByte addr]
  | .sbcAbsx base => [0xFD, loByte base, hiByte base]
  | .sbcAbsy base => [0xF9, loByte base, hiByte base]
  | .sbcIndx zp => [0xE1, zp]
  | .sbcIndy zp => [0xF1, zp]
  | .cmpIm imm => [0xC9, imm]
  | .cmpZp zp => [0xC5, zp]
  | .cmpZpx zp => [0xD5, zp]
  | .cmpAbs addr => [0xCD, loByte addr, hiByte addr]
  | .cmpAbsx base => [0xDD, loByte base, hiByte base]
  | .cmpAbsy base => [0xD9, loByte base, hiByte base]
  | .cmpIndx zp => [0xC1, zp]
  | .cmpIndy zp => [0xD1, zp]
  | .cpxIm imm => [0xE0, imm]
  | .cpxZp zp => [0xE4, zp]
  | .cpxAbs addr => [0xEC, loByte addr, hiByte addr]
  | .cpyIm imm => [0xC0, imm]
  | .cpyZp zp => [0xC4, zp]
  | .cpyAbs addr => [0xCC, loByte addr, hiByte addr]
  | .aslAcc => [0x0A]
  | .aslZp zp => [0x06, zp]
  | .aslZpx zp => [0x16, zp]
  | .aslAbs addr => [0x0E, loByte addr, hiByte addr]
  | .aslAbsx base => [0x1E, loByte base, hiByte base]
  | .lsrAcc => [0x4A]
  | .lsrZp zp => [0x46, zp]
  | .lsrZpx zp => [0x56, zp]
  | .lsrAbs addr => [0x4E, loByte addr, hiByte addr]
  | .lsrAbsx base => [0x5E, loByte base, hiByte base]
  | .rolAcc => [0x2A]
  | .rolZp zp => [0x26, zp]
  | .rolZpx zp => [0x36, zp]
  | .rolAbs addr => [0x2E, loByte addr, hiByte addr]
  | .rolAbsx base => [0x3E, loByte base, hiByte base]
  | .rorAcc => [0x6A]
  | .rorZp zp => [0x66, zp]
  | .rorZpx zp => [0x76, zp]
  | .rorAbs addr => [0x6E, loByte addr, hiByte addr]
  | .rorAbsx base => [0x7E, loByte base, hiByte base]
  | .jmpAbs addr => [0x4C, loByte addr, hiByte addr]
  | .jmpInd ptr => [0x6C, loByte ptr, hiByte ptr]
  | .jsrAbs addr => [0x20, loByte addr, hiByte addr]
  | .rts => [0x60]
  | .bcc disp => [0x90, disp]
  | .bcs disp => [0xB0, disp]
  | .beq disp => [0xF0, disp]
  | .bmi disp => [0x30, disp]
  | .bne disp => [0xD0, disp]
  | .bpl disp => [0x10, disp]
  | .bvc disp => [0x50, disp]
  | .bvs disp => [0x70, disp]
  | .clc => [0x18]
  | .cld => [0xD8]
  | .cli => [0x58]
  | .clv => [0xB8]
  | .sec => [0x38]
  | .sed => [0xF8]
  | .sei => [0x78]
  | .nop => [0xEA]
  | .brk => [0x00]
  | .rti => [0x40]

/-- Byte `k` of an instruction's table word: bits `8k+7` to `8k` of `w`. -/
def tableByte (w k : Nat) : Byte := BitVec.ofNat 8 (w >>> (8 * k))

/-- The three bytes that a table word of `nbits` bits lays out, every bit from `nbits` up being 0. -/
def tableBytes (nbits w : Nat) : List Byte :=
  [tableByte (w % 2 ^ nbits) 0, tableByte (w % 2 ^ nbits) 1, tableByte (w % 2 ^ nbits) 2]

/-- The instruction the decoder reads from a word numbered as spec/opcode_table.json numbers it: the
opcode byte is bits 7 to 0, the first operand byte bits 15 to 8, the second bits 23 to 16. -/
def decodeTableWord (nbits w : Nat) : Option Instr :=
  match decode (tableBytes nbits w) with
  | .ok (i, _) => some i
  | .error _ => none

end Sys2Proof
end

