-- ==== Sys2Proof/Config.lean ====
section
/-! DEFINITION. The two parameters that rule R6 of 00_scope.md leaves open and makes arguments of the
model. They stand in the field `cfg` of State (log entry 3, DESIGN CHOICE), so a statement about every
state is a statement about every value of both. -/

namespace Sys2Proof

/-- CYCLE_TABLE (rules R6 and R382): the source's cycle charges, or the NMOS chip's figures
(PRESUMED by the spec itself, K5 of 93_implementation_defined.md; log entry 8). -/
inductive CycleTable where
  | doc
  | nmos
  deriving DecidableEq, Repr

/-- The named parameters of rule R6. -/
structure Config where
  /-- JMP_IND_PAGE_WRAP: `true` keeps the high byte of a JMP (ind) target in the pointer's page (R114). -/
  jmpIndPageWrap : Bool
  /-- CYCLE_TABLE: which cost table `cyc` follows (R382). -/
  cycleTable : CycleTable
  deriving DecidableEq, Repr

/-- The values rule R6 names as the default of the spec's vectors. -/
def Config.default : Config := { jmpIndPageWrap := false, cycleTable := .doc }

end Sys2Proof
end

