-- ==== Sys2Proof/Machine/State.lean ====
section
/-! DEFINITION. Everything the spec gives the machine (10_state.md, 20_memory.md), as plain data, and
the state after reset (rule R370 of 70_reset_and_hazards.md). -/

namespace Sys2Proof.Machine

/-- The status register P: eight stored one-bit fields (rule R27); their places in the packed byte are
`Status.pack`'s (R36). B and U are stored bits (R34, R35; the spec's D18, log entry 15). -/
structure Status where
  /-- N, negative (R30). -/
  n : Bool
  /-- V, overflow (R31). -/
  v : Bool
  /-- U, the unused bit, 0 at all times (R35). -/
  u : Bool
  /-- B, break (R34). -/
  b : Bool
  /-- D, decimal (R33). -/
  d : Bool
  /-- I, interrupt disable (R32). -/
  i : Bool
  /-- Z, zero (R29). -/
  z : Bool
  /-- C, carry (R28). -/
  c : Bool
  deriving DecidableEq, Repr

/-- The 65,536 byte cells of rule R50 (20_memory.md): the cells that do not hold `Memory.unlisted`,
addresses strictly rising (`Memory.wf` in Machine/Ops.lean). -/
structure Memory where
  cells : List Host.Cell
  deriving DecidableEq, Repr

/-- `runState` of rule R40. -/
inductive RunState where
  /-- Before the first reset (R372). -/
  | uninitialised
  /-- After a reset. -/
  | ready
  /-- After a DecodeError on the byte `opcode` fetched at `addr` (R341). -/
  | faulted (opcode : Byte) (addr : Word)
  deriving DecidableEq, Repr

/-- The state of the core (the summary table of 10_state.md). -/
structure State where
  /-- Accumulator (R21). -/
  a : Byte
  /-- Index register X (R22). -/
  x : Byte
  /-- Index register Y (R23). -/
  y : Byte
  /-- Stack pointer: the stack address is 0x0100 + SP (R25). -/
  sp : Byte
  /-- Program counter (R26). -/
  pc : Word
  /-- Status flags (R27 to R36). -/
  p : Status
  /-- Memory (R50). -/
  mem : Memory
  /-- Cycle counter, a signed integer with no width limit (R38, R375); its value outside an `execute`
  call is the model's (log entry 2, DESIGN CHOICE). -/
  cyc : Int
  /-- The decimal-mode notice was raised since the last reset (R39). -/
  decNotice : Bool
  /-- Run state (R40). -/
  runState : RunState
  /-- The parameters of rule R6: the model's own field, which no step changes (log entry 3). -/
  cfg : Config
  deriving DecidableEq, Repr

/-- Why the machine stops. -/
inductive Fault where
  /-- Raised by `step` when the byte `opcode` fetched at `addr` is undefined (R79, R341); the state it
  leaves is `State.raiseDecodeError`. SAFE: the spec's own fault, and the machine does not go on. -/
  | decodeError (opcode : Byte) (addr : Word)
  deriving DecidableEq, Repr

/-- Why a step is refused. -/
inductive Refusal where
  /-- Raised by an arm of `exec` that has no meaning yet; no arm of this model raises it. SAFE. -/
  | notModelled (mnemonic : String)
  /-- Raised by `step` and by the host's operations when `runState` is not `ready` (R340, R372). SAFE:
  the spec's own outcome, and nothing changes. -/
  | notReady
  deriving DecidableEq, Repr

/-- The outcome of a step of this machine (rule R340 of 60_exceptions.md). -/
abbrev StepOutcome := Host.Outcome State Fault Refusal

/-- The value of `cyc` outside an `execute` call (log entry 2, DESIGN CHOICE: rule R38 gives none). -/
def State.idleCyc : Int := 0

/-- The state that `reset(entryPC)` leaves (rules R370, R371), under the spec's default parameters (R6). -/
def State.resetAt (entryPC : Word) : State where
  a := 0x00
  x := 0x00
  y := 0x00
  sp := 0xFF
  pc := entryPC
  p := { n := false, v := false, u := false, b := false, d := false, i := false, z := false, c := false }
  mem := { cells := [] }
  cyc := State.idleCyc
  decNotice := false
  runState := .ready
  cfg := Config.default

/-- The machine right after reset, the reset entry being 0x0000 (log entry 1, DESIGN CHOICE: rule R370
makes the entry an argument). -/
def State.reset : State := State.resetAt 0x0000

end Sys2Proof.Machine
end

