-- ==== Sys2Proof/Machine/Ops.lean ====
section
/-! DEFINITION. The named operations over memory and registers that the rules are written in (rule R10
of 00_scope.md): memory (20_memory.md), the cycle counter (70_reset_and_hazards.md), the fetch unit
(30_encoding.md), the stack controller (43_transfers_stack.md), and the exceptions: trap entry, trap
return and the fault (60_exceptions.md). An operation that reads answers the value and the state after. -/

namespace Sys2Proof.Machine

/-! ### Memory -/

/-- What a cell that is not listed holds: 0x00, the contents `Memory::init()` leaves (rule R61). -/
def Memory.unlisted : Byte := 0x00

/-- The value listed for an address, or `Memory.unlisted`. -/
def Memory.lookup : List Host.Cell → Nat → Byte
  | [], _ => Memory.unlisted
  | (k, v) :: rest, a => if k = a then v else Memory.lookup rest a

/-- The cells without those of an address. -/
def Memory.erase (cells : List Host.Cell) (a : Nat) : List Host.Cell :=
  cells.filter fun cell => cell.1 != a

/-- The cells with one more, put where addresses keep rising. -/
def Memory.insert : List Host.Cell → Nat → Byte → List Host.Cell
  | [], a, v => [(a, v)]
  | (k, w) :: rest, a, v =>
    if a < k then (a, v) :: (k, w) :: rest else (k, w) :: Memory.insert rest a v

/-- `mem[addr]` (rule R51). -/
def Memory.read (m : Memory) (addr : Word) : Byte := Memory.lookup m.cells addr.toNat

/-- `mem[addr] <- v` (rule R52): writing what an unlisted cell holds removes the cell from the list. -/
def Memory.write (m : Memory) (addr : Word) (v : Byte) : Memory where
  cells :=
    if v = Memory.unlisted then Memory.erase m.cells addr.toNat
    else Memory.insert (Memory.erase m.cells addr.toNat) addr.toNat v

/-- The canonical form of a list of cells: addresses strictly rising and inside the address space (R50),
and no cell equal to what an unlisted one holds. -/
def Memory.cellsWf : List Host.Cell → Bool
  | [] => true
  | (k, v) :: rest =>
    decide (k < 65536) && v != Memory.unlisted && rest.all (fun cell => decide (k < cell.1)) &&
      Memory.cellsWf rest

/-- The memory is in canonical form, so that equal memories are equal data. -/
def Memory.wf (m : Memory) : Bool := Memory.cellsWf m.cells

/-! ### The cycle counter and memory accesses -/

/-- `charge(n)` (rule R381): `cyc <- cyc - n`. -/
def State.charge (s : State) (n : Nat) : State := { s with cyc := s.cyc - n }

/-- The cycles that CYCLE_TABLE = nmos adds at the end of an instruction (rule R382). -/
def nmosDelta (cfg : Config) (n : Nat) : Nat :=
  match cfg.cycleTable with
  | .doc => 0
  | .nmos => n

/-- The delta of rule R382, charged last in the step. -/
def State.chargeNmos (s : State) (n : Nat) : State := s.charge (nmosDelta s.cfg n)

/-- `MemRead(addr, 1)` (rule R51). -/
def State.readByte (s : State) (addr : Word) : Byte × State := (s.mem.read addr, s.charge 1)

/-- `MemRead(addr, 2)` (rule R53): the low byte first, the high byte at addr + 1 modulo 65,536. -/
def State.readWord (s : State) (addr : Word) : Word × State :=
  let lo := s.readByte addr
  let hi := lo.2.readByte (addr + 1)
  (leWord lo.1 hi.1, hi.2)

/-- `MemWrite(addr, 1, v)` (rule R52). -/
def State.writeByte (s : State) (addr : Word) (v : Byte) : State :=
  ({ s with mem := s.mem.write addr v } : State).charge 1

/-! ### The fetch unit -/

/-- What `n` calls of `FetchByte()` do to PC and `cyc` (rules R72, R73). The bytes themselves are in the
decoded instruction (log entry 4, DEDUCED from rule R65). -/
def State.fetched (s : State) (n : Nat) : State :=
  ({ s with pc := s.pc + BitVec.ofNat 16 n } : State).charge n

/-- The bytes at PC: an opcode byte and the two after it, as many as the longest instruction has (R70);
addresses wrap past 0xFFFF (R26). -/
def State.fetchWindow (s : State) : List Byte :=
  [s.mem.read s.pc, s.mem.read (s.pc + 1), s.mem.read (s.pc + 2)]

/-- The opcode byte of the next instruction. -/
def State.opcodeAtPc (s : State) : Byte := s.mem.read s.pc

/-- The instruction that the bytes at PC decode to, or `none` where the opcode byte is undefined
(rules R74, R75). -/
def State.instrAtPc (s : State) : Option Instr :=
  decodeOpcode s.opcodeAtPc (s.mem.read (s.pc + 1)) (s.mem.read (s.pc + 2))

/-- Bytes stored one after another from an address, which wraps past 0xFFFF, with no cycle charged: the
host's placing of a program (rule R373). -/
def Memory.place (m : Memory) (addr : Word) : List Byte → Memory
  | [] => m
  | v :: rest => Memory.place (m.write addr v) (addr + 1) rest

/-- `s` with the bytes of an instruction at PC and the core ready to run it (log entry 6). -/
def State.withBytesAtPc (s : State) (bytes : List Byte) : State :=
  { s with mem := s.mem.place s.pc bytes, runState := .ready }

/-! ### The stack controller -/

/-- `StackAddr(k)` (rule R180), the offset `k` taken modulo 256: the address stays in page one (the
spec's D1, log entry 9). -/
def State.stackAddr (s : State) (k : Byte) : Word := 0x0100 ||| zext16 (s.sp + k)

/-- `Push(v)` (rule R181). -/
def State.push (s : State) (v : Byte) : State :=
  let t := s.writeByte (s.stackAddr 0) v
  { t with sp := t.sp - 1 }

/-- `Pop()` (rule R182). -/
def State.pop (s : State) : Byte × State :=
  let t : State := { s with sp := s.sp + 1 }
  t.readByte (t.stackAddr 0)

/-- `PushWord(v)` (rule R183): high byte first, low byte one below, then SP - 2. -/
def State.pushWord (s : State) (v : Word) : State :=
  let t := (s.writeByte (s.stackAddr 0) (hiByte v)).writeByte (s.stackAddr (-1)) (loByte v)
  { t with sp := t.sp - 2 }

/-- `PopWord()` (rule R184): SP + 2, then the low byte one below and the high byte at SP. -/
def State.popWord (s : State) : Word × State :=
  let t : State := { s with sp := s.sp + 2 }
  let lo := t.readByte (t.stackAddr (-1))
  let hi := lo.2.readByte (t.stackAddr 0)
  (leWord lo.1 hi.1, hi.2)

/-! ### The packed status byte -/

/-- `pack(P)` (rule R36). -/
def Status.pack (p : Status) : Byte :=
  (bitByte p.n <<< 7) ||| (bitByte p.v <<< 6) ||| (bitByte p.u <<< 5) ||| (bitByte p.b <<< 4) |||
    (bitByte p.d <<< 3) ||| (bitByte p.i <<< 2) ||| (bitByte p.z <<< 1) ||| bitByte p.c

/-- `unpack(b)` (rule R36). -/
def Status.unpack (b : Byte) : Status where
  n := b.getLsbD 7
  v := b.getLsbD 6
  u := b.getLsbD 5
  b := b.getLsbD 4
  d := b.getLsbD 3
  i := b.getLsbD 2
  z := b.getLsbD 1
  c := b.getLsbD 0

/-- The byte that PHP and BRK push (rule R36): B and U read as 1 in it. -/
def Status.pushed (p : Status) : Byte := p.pack ||| 0x30

/-- The status that PLP and RTI load from a popped byte (rule R36): B and U become 0. -/
def Status.pulled (b : Byte) : Status := Status.unpack (b &&& 0xCF)

/-! ### Exceptions -/

/-- The address of the BRK vector (rule R60). -/
def brkVector : Word := 0xFFFE

/-- TRAP ENTRY (rules R318 and R344), from a state whose PC is one past the BRK opcode: push PC + 1 and
the status with B and U set, set I and B, and load PC from the vector. No mode changes (R350). -/
def State.takeTrap (s : State) : State :=
  let saved := (s.pushWord (s.pc + 1)).push s.p.pushed
  let masked : State := { saved with p := { saved.p with i := true, b := true } }
  let target := masked.readWord brkVector
  { target.2 with pc := target.1 }

/-- TRAP RETURN (rules R319 and R346): pop the status, B and U becoming 0, then pop PC as it is. -/
def State.returnFromTrap (s : State) : State :=
  let status := s.pop
  let restored : State := { status.2 with p := Status.pulled status.1 }
  let target := restored.popWord
  { target.2 with pc := target.1 }

/-- The state a DecodeError leaves (rule R341), from the state before the step: the run state records
the byte and its address, PC is one past it, its fetch has been charged, and nothing else has changed. -/
def State.raiseDecodeError (s : State) (opcode : Byte) (addr : Word) : State :=
  { s.fetched 1 with runState := .faulted opcode addr }

end Sys2Proof.Machine
end

