-- ==== Sys2Proof/Machine/Flags.lean ====
section
/-! DEFINITION. The ALU and its flag logic (41_alu_flags.md), pure functions of their operands and the
status. A flag that a function does not name keeps its value (rule R144). -/

namespace Sys2Proof.Machine

/-- `setNZ(v)` (rule R130). -/
def Status.setNZ (p : Status) (v : Byte) : Status := { p with z := v == 0, n := v.getLsbD 7 }

/-- What an addition gives: the 8-bit result, the carry out and the signed overflow (rule R132). -/
structure SumResult where
  result : Byte
  carry : Bool
  overflow : Bool
  deriving DecidableEq, Repr

/-- `adc(a, m, cin)` (rule R132). -/
def adc (a m : Byte) (cin : Bool) : SumResult :=
  let sum := a.toNat + m.toNat + cin.toNat
  let r := BitVec.ofNat 8 sum
  { result := r
    carry := decide (255 < sum)
    overflow := (a ^^^ r) &&& (m ^^^ r) &&& 0x80 != 0 }

/-- `sbc(a, m, cin)`: the addition of the complement (rule R135). -/
def sbc (a m : Byte) (cin : Bool) : SumResult := adc a (~~~m) cin

/-- The flags an ADC or SBC writes: C, V, then Z and N from the result (rule R132). -/
def Status.setSum (p : Status) (r : SumResult) : Status :=
  { p with c := r.carry, v := r.overflow }.setNZ r.result

/-- `compare(reg, m)` (rule R136). -/
def Status.compare (p : Status) (reg m : Byte) : Status :=
  { p with c := decide (m.toNat ≤ reg.toNat), z := reg == m, n := (reg - m).getLsbD 7 }

/-- `bittest(a, m)` (rule R137): N and V come from the operand itself. -/
def Status.bitTest (p : Status) (a m : Byte) : Status :=
  { p with z := (a &&& m) == 0, n := m.getLsbD 7, v := m.getLsbD 6 }

/-- `asl(m)` (rule R138): the result and the status after. -/
def asl (m : Byte) (p : Status) : Byte × Status :=
  let r := m <<< 1
  (r, { p with c := m.getLsbD 7 }.setNZ r)

/-- `lsr(m)` (rule R139): N becomes 0. -/
def lsr (m : Byte) (p : Status) : Byte × Status :=
  let r := m >>> 1
  (r, { p with c := m.getLsbD 0, z := r == 0, n := false })

/-- `rol(m, cin)` (rule R140), cin being C before the instruction. -/
def rol (m : Byte) (p : Status) : Byte × Status :=
  let r := (m <<< 1) ||| bitByte p.c
  (r, { p with c := m.getLsbD 7 }.setNZ r)

/-- `ror(m, cin)` (rule R141), cin being C before the instruction. -/
def ror (m : Byte) (p : Status) : Byte × Status :=
  let r := (m >>> 1) ||| (bitByte p.c <<< 7)
  (r, { p with c := m.getLsbD 0 }.setNZ r)

/-- `inc(v)` (rule R142) and the status that INC leaves. -/
def inc (v : Byte) (p : Status) : Byte × Status := (v + 1, p.setNZ (v + 1))

/-- `dec(v)` (rule R142) and the status that DEC leaves. -/
def dec (v : Byte) (p : Status) : Byte × Status := (v - 1, p.setNZ (v - 1))

end Sys2Proof.Machine
end

