-- ==== Sys2Proof/Machine/Operands.lean ====
section
/-! DEFINITION. The addressing-mode resolver (40_addressing_modes.md). It runs after the opcode fetch,
with PC at the first operand byte; it advances PC past the operand bytes, charges the mode's cycles and
answers the effective address or the value (rule R100). The operand bytes themselves are in the decoded
instruction (log entry 4). -/

namespace Sys2Proof.Machine

/-- The modes that give an effective address in memory, with their operand (rule R71). -/
inductive MemOperand where
  | zp (b : Byte)
  | zpx (b : Byte)
  | zpy (b : Byte)
  | abs (w : Word)
  | absx (w : Word)
  | absy (w : Word)
  | indx (b : Byte)
  | indy (b : Byte)
  deriving DecidableEq, Repr

/-- The operand of a read instruction (rule R116): a value or a place in memory. -/
inductive ReadOperand where
  | im (v : Byte)
  | mem (m : MemOperand)
  deriving DecidableEq, Repr

/-- The two forms of ABSX, ABSY and INDY (rule R117): reads pay a cycle on a page cross, stores and
read-modify-writes always. -/
inductive Variant where
  | read
  | always
  deriving DecidableEq, Repr

/-- The extra cycle of an indexed mode (rules R109, R110, R112, R113). -/
def indexPenalty (variant : Variant) (base ea : Word) : Nat :=
  match variant with
  | .read => if pageCross base ea then 1 else 0
  | .always => 1

/-- `ZpReadWord(p)` (rule R120): the high byte is read at (p + 1) modulo 256, in page zero (the spec's
D2, log entry 10). -/
def zpReadWord (p : Byte) (s : State) : Word × State :=
  let lo := s.readByte (zext16 p)
  let hi := lo.2.readByte (zext16 (p + 1))
  (leWord lo.1 hi.1, hi.2)

/-- `EA(m)`: the effective address of each mode (rules R105 to R113) and the state after. -/
def effectiveAddress (variant : Variant) (m : MemOperand) (s : State) : Word × State :=
  match m with
  | .zp b => (zext16 b, s.fetched 1)
  | .zpx b =>
    let t := (s.fetched 1).charge 1
    (zext16 (b + t.x), t)
  | .zpy b =>
    let t := (s.fetched 1).charge 1
    (zext16 (b + t.y), t)
  | .abs w => (w, s.fetched 2)
  | .absx w =>
    let t := s.fetched 2
    let ea := w + zext16 t.x
    (ea, t.charge (indexPenalty variant w ea))
  | .absy w =>
    let t := s.fetched 2
    let ea := w + zext16 t.y
    (ea, t.charge (indexPenalty variant w ea))
  | .indx b =>
    let t := (s.fetched 1).charge 1
    zpReadWord (b + t.x) t
  | .indy b =>
    let base := zpReadWord b (s.fetched 1)
    let ea := base.1 + zext16 base.2.y
    (ea, base.2.charge (indexPenalty variant base.1 ea))

/-- `Operand(m)` (rule R116): the immediate byte (R104), or the byte at the effective address. -/
def readOperand (o : ReadOperand) (s : State) : Byte × State :=
  match o with
  | .im v => (v, s.fetched 1)
  | .mem m =>
    let ea := effectiveAddress .read m s
    ea.2.readByte ea.1

/-- The target of JMP (ind) (rule R114): with JMP_IND_PAGE_WRAP the high byte stays in the pointer's
page. -/
def indirectTarget (ptr : Word) (s : State) : Word × State :=
  let t := s.fetched 2
  if t.cfg.jmpIndPageWrap then
    let lo := t.readByte ptr
    let hi := lo.2.readByte ((ptr &&& 0xFF00) ||| ((ptr + 1) &&& 0x00FF))
    (leWord lo.1 hi.1, hi.2)
  else t.readWord ptr

/-- The target of a branch (rule R115): relative to PC after the displacement byte. -/
def relativeTarget (disp : Byte) (s : State) : Word × State :=
  let t := s.fetched 1
  (t.pc + sext16 disp, t)

end Sys2Proof.Machine
end

