-- ==== Sys2Proof/Machine/Arith.lean ====
section
/-! DEFINITION. Addition, subtraction and compare (46_arith_compare.md, rules R240 to R244). Decimal mode
is not implemented: D = 1 raises the notice and changes no result (rule R134; the spec's D8, log entry
12). -/

namespace Sys2Proof.Machine

/-- The notice of ADC and SBC (rules R134 and R342): with D = 1, `decNotice <- 1`. -/
def State.noteDecimal (s : State) : State := { s with decNotice := s.decNotice || s.p.d }

/-- The shape of ADC (R240). -/
def addA (o : ReadOperand) (s : State) : State :=
  let v := readOperand o s
  let t := v.2.noteDecimal
  let r := adc t.a v.1 t.p.c
  { t with a := r.result, p := t.p.setSum r }

/-- The shape of SBC (R241). -/
def subtractA (o : ReadOperand) (s : State) : State :=
  let v := readOperand o s
  let t := v.2.noteDecimal
  let r := sbc t.a v.1 t.p.c
  { t with a := r.result, p := t.p.setSum r }

/-- The shape of CMP, CPX and CPY (R242 to R244) for the value of a register: flags only, and D has no
effect. -/
def compareWith (reg : Byte) (o : ReadOperand) (s : State) : State :=
  let v := readOperand o s
  { v.2 with p := v.2.p.compare reg v.1 }

/-- ADC IM (R240). -/
def execAdcIm (imm : Byte) (s : State) : StepOutcome := .next (addA (.im imm) s)

/-- ADC ZP (R240). -/
def execAdcZp (zp : Byte) (s : State) : StepOutcome := .next (addA (.mem (.zp zp)) s)

/-- ADC ZPX (R240). -/
def execAdcZpx (zp : Byte) (s : State) : StepOutcome := .next (addA (.mem (.zpx zp)) s)

/-- ADC ABS (R240). -/
def execAdcAbs (addr : Word) (s : State) : StepOutcome := .next (addA (.mem (.abs addr)) s)

/-- ADC ABSX (R240). -/
def execAdcAbsx (base : Word) (s : State) : StepOutcome := .next (addA (.mem (.absx base)) s)

/-- ADC ABSY (R240). -/
def execAdcAbsy (base : Word) (s : State) : StepOutcome := .next (addA (.mem (.absy base)) s)

/-- ADC INDX (R240). -/
def execAdcIndx (zp : Byte) (s : State) : StepOutcome := .next (addA (.mem (.indx zp)) s)

/-- ADC INDY (R240). -/
def execAdcIndy (zp : Byte) (s : State) : StepOutcome := .next (addA (.mem (.indy zp)) s)

/-- SBC IM (R241). -/
def execSbcIm (imm : Byte) (s : State) : StepOutcome := .next (subtractA (.im imm) s)

/-- SBC ZP (R241). -/
def execSbcZp (zp : Byte) (s : State) : StepOutcome := .next (subtractA (.mem (.zp zp)) s)

/-- SBC ZPX (R241). -/
def execSbcZpx (zp : Byte) (s : State) : StepOutcome := .next (subtractA (.mem (.zpx zp)) s)

/-- SBC ABS (R241). -/
def execSbcAbs (addr : Word) (s : State) : StepOutcome := .next (subtractA (.mem (.abs addr)) s)

/-- SBC ABSX (R241). -/
def execSbcAbsx (base : Word) (s : State) : StepOutcome := .next (subtractA (.mem (.absx base)) s)

/-- SBC ABSY (R241). -/
def execSbcAbsy (base : Word) (s : State) : StepOutcome := .next (subtractA (.mem (.absy base)) s)

/-- SBC INDX (R241). -/
def execSbcIndx (zp : Byte) (s : State) : StepOutcome := .next (subtractA (.mem (.indx zp)) s)

/-- SBC INDY (R241). -/
def execSbcIndy (zp : Byte) (s : State) : StepOutcome := .next (subtractA (.mem (.indy zp)) s)

/-- CMP IM (R242). -/
def execCmpIm (imm : Byte) (s : State) : StepOutcome := .next (compareWith s.a (.im imm) s)

/-- CMP ZP (R242). -/
def execCmpZp (zp : Byte) (s : State) : StepOutcome := .next (compareWith s.a (.mem (.zp zp)) s)

/-- CMP ZPX (R242). -/
def execCmpZpx (zp : Byte) (s : State) : StepOutcome := .next (compareWith s.a (.mem (.zpx zp)) s)

/-- CMP ABS (R242). -/
def execCmpAbs (addr : Word) (s : State) : StepOutcome := .next (compareWith s.a (.mem (.abs addr)) s)

/-- CMP ABSX (R242). -/
def execCmpAbsx (base : Word) (s : State) : StepOutcome := .next (compareWith s.a (.mem (.absx base)) s)

/-- CMP ABSY (R242). -/
def execCmpAbsy (base : Word) (s : State) : StepOutcome := .next (compareWith s.a (.mem (.absy base)) s)

/-- CMP INDX (R242). -/
def execCmpIndx (zp : Byte) (s : State) : StepOutcome := .next (compareWith s.a (.mem (.indx zp)) s)

/-- CMP INDY (R242). -/
def execCmpIndy (zp : Byte) (s : State) : StepOutcome := .next (compareWith s.a (.mem (.indy zp)) s)

/-- CPX IM (R243). -/
def execCpxIm (imm : Byte) (s : State) : StepOutcome := .next (compareWith s.x (.im imm) s)

/-- CPX ZP (R243). -/
def execCpxZp (zp : Byte) (s : State) : StepOutcome := .next (compareWith s.x (.mem (.zp zp)) s)

/-- CPX ABS (R243). -/
def execCpxAbs (addr : Word) (s : State) : StepOutcome := .next (compareWith s.x (.mem (.abs addr)) s)

/-- CPY IM (R244). -/
def execCpyIm (imm : Byte) (s : State) : StepOutcome := .next (compareWith s.y (.im imm) s)

/-- CPY ZP (R244). -/
def execCpyZp (zp : Byte) (s : State) : StepOutcome := .next (compareWith s.y (.mem (.zp zp)) s)

/-- CPY ABS (R244). -/
def execCpyAbs (addr : Word) (s : State) : StepOutcome := .next (compareWith s.y (.mem (.abs addr)) s)

end Sys2Proof.Machine
end

