-- ==== Sys2Proof/Machine/Control.lean ====
section
/-! DEFINITION. Flag operations, NOP, the trap BRK and its return RTI (49_flags_nop_brk_rti.md, rules
R310 to R319). -/

namespace Sys2Proof.Machine

/-- CLC IMP (R310). -/
def execClc (s : State) : StepOutcome := .next ({ s.charge 1 with p := { s.p with c := false } })

/-- CLD IMP (R311). -/
def execCld (s : State) : StepOutcome := .next ({ s.charge 1 with p := { s.p with d := false } })

/-- CLI IMP (R312). -/
def execCli (s : State) : StepOutcome := .next ({ s.charge 1 with p := { s.p with i := false } })

/-- CLV IMP (R313). -/
def execClv (s : State) : StepOutcome := .next ({ s.charge 1 with p := { s.p with v := false } })

/-- SEC IMP (R314). -/
def execSec (s : State) : StepOutcome := .next ({ s.charge 1 with p := { s.p with c := true } })

/-- SED IMP (R315). -/
def execSed (s : State) : StepOutcome := .next ({ s.charge 1 with p := { s.p with d := true } })

/-- SEI IMP (R316). -/
def execSei (s : State) : StepOutcome := .next ({ s.charge 1 with p := { s.p with i := true } })

/-- NOP IMP (R317). -/
def execNop (s : State) : StepOutcome := .next (s.charge 1)

/-- BRK IMP (R318, R344, R382): the byte after the opcode is skipped and not read. -/
def execBrk (s : State) : StepOutcome := .next (s.takeTrap.chargeNmos 1)

/-- RTI IMP (R319, R346, R382). -/
def execRti (s : State) : StepOutcome := .next (s.returnFromTrap.chargeNmos 2)

end Sys2Proof.Machine
end

