-- ==== Sys2Proof/Machine/IncDec.lean ====
section
/-! DEFINITION. Increments and decrements (45_incdec.md, rules R220 to R225), and the shape of every
read-modify-write, which the shifts share. -/

namespace Sys2Proof.Machine

/-- The shape of a read-modify-write on memory (rules R224 and R225, and ShiftOp of 47_shifts.md): the
effective address in the always-penalty form (R117), a read, one modify cycle, a write of the same cell.
The modify cycle of INC and DEC is the spec's D5 (log entry 14). -/
def modifyMem (f : Byte → Status → Byte × Status) (m : MemOperand) (s : State) : State :=
  let ea := effectiveAddress .always m s
  let v := ea.2.readByte ea.1
  let r := f v.1 v.2.p
  let t := (v.2.charge 1).writeByte ea.1 r.1
  { t with p := r.2 }

/-- INX IMP (R220). -/
def execInx (s : State) : StepOutcome := .next ({ s.charge 1 with x := s.x + 1, p := s.p.setNZ (s.x + 1) })

/-- INY IMP (R221). -/
def execIny (s : State) : StepOutcome := .next ({ s.charge 1 with y := s.y + 1, p := s.p.setNZ (s.y + 1) })

/-- DEX IMP (R222). -/
def execDex (s : State) : StepOutcome := .next ({ s.charge 1 with x := s.x - 1, p := s.p.setNZ (s.x - 1) })

/-- DEY IMP (R223). -/
def execDey (s : State) : StepOutcome := .next ({ s.charge 1 with y := s.y - 1, p := s.p.setNZ (s.y - 1) })

/-- INC ZP (R224). -/
def execIncZp (zp : Byte) (s : State) : StepOutcome := .next (modifyMem inc (.zp zp) s)

/-- INC ZPX (R224). -/
def execIncZpx (zp : Byte) (s : State) : StepOutcome := .next (modifyMem inc (.zpx zp) s)

/-- INC ABS (R224). -/
def execIncAbs (addr : Word) (s : State) : StepOutcome := .next (modifyMem inc (.abs addr) s)

/-- INC ABSX (R224). -/
def execIncAbsx (base : Word) (s : State) : StepOutcome := .next (modifyMem inc (.absx base) s)

/-- DEC ZP (R225). -/
def execDecZp (zp : Byte) (s : State) : StepOutcome := .next (modifyMem dec (.zp zp) s)

/-- DEC ZPX (R225). -/
def execDecZpx (zp : Byte) (s : State) : StepOutcome := .next (modifyMem dec (.zpx zp) s)

/-- DEC ABS (R225). -/
def execDecAbs (addr : Word) (s : State) : StepOutcome := .next (modifyMem dec (.abs addr) s)

/-- DEC ABSX (R225). -/
def execDecAbsx (base : Word) (s : State) : StepOutcome := .next (modifyMem dec (.absx base) s)

end Sys2Proof.Machine
end

