-- ==== Sys2Proof/Machine/Jump.lean ====
section
/-! DEFINITION. Jumps, subroutine calls and branches (48_jumps_branches.md, rules R280 to R291). -/

namespace Sys2Proof.Machine

/-- The shape of JMP ABS (R280). -/
def jumpTo (addr : Word) (s : State) : State := { s.fetched 2 with pc := addr }

/-- The shape of JMP IND (R280, R114). -/
def jumpIndirect (ptr : Word) (s : State) : State :=
  let target := indirectTarget ptr s
  { target.2 with pc := target.1 }

/-- The shape of JSR (R281): push the address of its own last byte, then jump; one more cycle. -/
def callSubroutine (addr : Word) (s : State) : State :=
  let t := s.fetched 2
  ({ t.pushWord (t.pc - 1) with pc := addr } : State).charge 1

/-- The shape of RTS (R282): pop a word and go on one past it; two more cycles. -/
def returnFromSubroutine (s : State) : State :=
  let v := s.popWord
  ({ v.2 with pc := v.1 + 1 } : State).charge 2

/-- `Branch(cond)` (R283): a taken branch costs one cycle, and one more to another page than that of PC
after the displacement byte. -/
def branchIf (cond : Bool) (disp : Byte) (s : State) : State :=
  let target := relativeTarget disp s
  if cond then
    let t := (target.2.charge 1).charge (if pageCross target.2.pc target.1 then 1 else 0)
    { t with pc := target.1 }
  else target.2

/-- JMP ABS (R280). -/
def execJmpAbs (addr : Word) (s : State) : StepOutcome := .next (jumpTo addr s)

/-- JMP IND (R280). -/
def execJmpInd (ptr : Word) (s : State) : StepOutcome := .next (jumpIndirect ptr s)

/-- JSR ABS (R281). -/
def execJsrAbs (addr : Word) (s : State) : StepOutcome := .next (callSubroutine addr s)

/-- RTS IMP (R282, R382). -/
def execRts (s : State) : StepOutcome := .next ((returnFromSubroutine s).chargeNmos 1)

/-- BCC REL (R284). -/
def execBcc (disp : Byte) (s : State) : StepOutcome := .next (branchIf (!s.p.c) disp s)

/-- BCS REL (R285). -/
def execBcs (disp : Byte) (s : State) : StepOutcome := .next (branchIf s.p.c disp s)

/-- BEQ REL (R286). -/
def execBeq (disp : Byte) (s : State) : StepOutcome := .next (branchIf s.p.z disp s)

/-- BMI REL (R287). -/
def execBmi (disp : Byte) (s : State) : StepOutcome := .next (branchIf s.p.n disp s)

/-- BNE REL (R288). -/
def execBne (disp : Byte) (s : State) : StepOutcome := .next (branchIf (!s.p.z) disp s)

/-- BPL REL (R289). -/
def execBpl (disp : Byte) (s : State) : StepOutcome := .next (branchIf (!s.p.n) disp s)

/-- BVC REL (R290). -/
def execBvc (disp : Byte) (s : State) : StepOutcome := .next (branchIf (!s.p.v) disp s)

/-- BVS REL (R291). -/
def execBvs (disp : Byte) (s : State) : StepOutcome := .next (branchIf s.p.v disp s)

end Sys2Proof.Machine
end

