-- ==== Sys2Proof/Machine/LoadStore.lean ====
section
/-! DEFINITION. Loads and stores (42_loads_stores.md, rules R160 to R165). -/

namespace Sys2Proof.Machine

/-- The shape of LDA (R160): the operand to A, Z and N from it. -/
def loadA (o : ReadOperand) (s : State) : State :=
  let v := readOperand o s
  { v.2 with a := v.1, p := v.2.p.setNZ v.1 }

/-- The shape of LDX (R161): the operand to X, Z and N from it. -/
def loadX (o : ReadOperand) (s : State) : State :=
  let v := readOperand o s
  { v.2 with x := v.1, p := v.2.p.setNZ v.1 }

/-- The shape of LDY (R162): the operand to Y, Z and N from it. -/
def loadY (o : ReadOperand) (s : State) : State :=
  let v := readOperand o s
  { v.2 with y := v.1, p := v.2.p.setNZ v.1 }

/-- The shape of a store (R163 to R165): the effective address in the always-penalty form (R117), then
one write; no flag changes. -/
def storeByte (v : Byte) (m : MemOperand) (s : State) : State :=
  let ea := effectiveAddress .always m s
  ea.2.writeByte ea.1 v

/-- LDA IM (R160). -/
def execLdaIm (imm : Byte) (s : State) : StepOutcome := .next (loadA (.im imm) s)

/-- LDA ZP (R160). -/
def execLdaZp (zp : Byte) (s : State) : StepOutcome := .next (loadA (.mem (.zp zp)) s)

/-- LDA ZPX (R160). -/
def execLdaZpx (zp : Byte) (s : State) : StepOutcome := .next (loadA (.mem (.zpx zp)) s)

/-- LDA ABS (R160). -/
def execLdaAbs (addr : Word) (s : State) : StepOutcome := .next (loadA (.mem (.abs addr)) s)

/-- LDA ABSX (R160). -/
def execLdaAbsx (base : Word) (s : State) : StepOutcome := .next (loadA (.mem (.absx base)) s)

/-- LDA ABSY (R160). -/
def execLdaAbsy (base : Word) (s : State) : StepOutcome := .next (loadA (.mem (.absy base)) s)

/-- LDA INDX (R160). -/
def execLdaIndx (zp : Byte) (s : State) : StepOutcome := .next (loadA (.mem (.indx zp)) s)

/-- LDA INDY (R160). -/
def execLdaIndy (zp : Byte) (s : State) : StepOutcome := .next (loadA (.mem (.indy zp)) s)

/-- LDX IM (R161). -/
def execLdxIm (imm : Byte) (s : State) : StepOutcome := .next (loadX (.im imm) s)

/-- LDX ZP (R161). -/
def execLdxZp (zp : Byte) (s : State) : StepOutcome := .next (loadX (.mem (.zp zp)) s)

/-- LDX ZPY (R161). -/
def execLdxZpy (zp : Byte) (s : State) : StepOutcome := .next (loadX (.mem (.zpy zp)) s)

/-- LDX ABS (R161). -/
def execLdxAbs (addr : Word) (s : State) : StepOutcome := .next (loadX (.mem (.abs addr)) s)

/-- LDX ABSY (R161). -/
def execLdxAbsy (base : Word) (s : State) : StepOutcome := .next (loadX (.mem (.absy base)) s)

/-- LDY IM (R162). -/
def execLdyIm (imm : Byte) (s : State) : StepOutcome := .next (loadY (.im imm) s)

/-- LDY ZP (R162). -/
def execLdyZp (zp : Byte) (s : State) : StepOutcome := .next (loadY (.mem (.zp zp)) s)

/-- LDY ZPX (R162). -/
def execLdyZpx (zp : Byte) (s : State) : StepOutcome := .next (loadY (.mem (.zpx zp)) s)

/-- LDY ABS (R162). -/
def execLdyAbs (addr : Word) (s : State) : StepOutcome := .next (loadY (.mem (.abs addr)) s)

/-- LDY ABSX (R162). -/
def execLdyAbsx (base : Word) (s : State) : StepOutcome := .next (loadY (.mem (.absx base)) s)

/-- STA ZP (R163). -/
def execStaZp (zp : Byte) (s : State) : StepOutcome := .next (storeByte s.a (.zp zp) s)

/-- STA ZPX (R163). -/
def execStaZpx (zp : Byte) (s : State) : StepOutcome := .next (storeByte s.a (.zpx zp) s)

/-- STA ABS (R163). -/
def execStaAbs (addr : Word) (s : State) : StepOutcome := .next (storeByte s.a (.abs addr) s)

/-- STA ABSX (R163). -/
def execStaAbsx (base : Word) (s : State) : StepOutcome := .next (storeByte s.a (.absx base) s)

/-- STA ABSY (R163). -/
def execStaAbsy (base : Word) (s : State) : StepOutcome := .next (storeByte s.a (.absy base) s)

/-- STA INDX (R163). -/
def execStaIndx (zp : Byte) (s : State) : StepOutcome := .next (storeByte s.a (.indx zp) s)

/-- STA INDY (R163). -/
def execStaIndy (zp : Byte) (s : State) : StepOutcome := .next (storeByte s.a (.indy zp) s)

/-- STX ZP (R164). -/
def execStxZp (zp : Byte) (s : State) : StepOutcome := .next (storeByte s.x (.zp zp) s)

/-- STX ZPY (R164). -/
def execStxZpy (zp : Byte) (s : State) : StepOutcome := .next (storeByte s.x (.zpy zp) s)

/-- STX ABS (R164). -/
def execStxAbs (addr : Word) (s : State) : StepOutcome := .next (storeByte s.x (.abs addr) s)

/-- STY ZP (R165). -/
def execStyZp (zp : Byte) (s : State) : StepOutcome := .next (storeByte s.y (.zp zp) s)

/-- STY ZPX (R165). -/
def execStyZpx (zp : Byte) (s : State) : StepOutcome := .next (storeByte s.y (.zpx zp) s)

/-- STY ABS (R165). -/
def execStyAbs (addr : Word) (s : State) : StepOutcome := .next (storeByte s.y (.abs addr) s)

end Sys2Proof.Machine
end

