-- ==== Sys2Proof/Machine/Logic.lean ====
section
/-! DEFINITION. Logical operations and the bit test (44_logical_bit.md, rules R200 to R203). -/

namespace Sys2Proof.Machine

/-- The shape of AND, ORA and EOR (R143, R200 to R202): `A <- f(A, operand)`, Z and N from it. -/
def logicA (f : Byte → Byte → Byte) (o : ReadOperand) (s : State) : State :=
  let v := readOperand o s
  { v.2 with a := f v.2.a v.1, p := v.2.p.setNZ (f v.2.a v.1) }

/-- The shape of BIT (R203). -/
def testBits (o : ReadOperand) (s : State) : State :=
  let v := readOperand o s
  { v.2 with p := v.2.p.bitTest v.2.a v.1 }

/-- AND IM (R200). -/
def execAndIm (imm : Byte) (s : State) : StepOutcome := .next (logicA (· &&& ·) (.im imm) s)

/-- AND ZP (R200). -/
def execAndZp (zp : Byte) (s : State) : StepOutcome := .next (logicA (· &&& ·) (.mem (.zp zp)) s)

/-- AND ZPX (R200). -/
def execAndZpx (zp : Byte) (s : State) : StepOutcome := .next (logicA (· &&& ·) (.mem (.zpx zp)) s)

/-- AND ABS (R200). -/
def execAndAbs (addr : Word) (s : State) : StepOutcome := .next (logicA (· &&& ·) (.mem (.abs addr)) s)

/-- AND ABSX (R200). -/
def execAndAbsx (base : Word) (s : State) : StepOutcome := .next (logicA (· &&& ·) (.mem (.absx base)) s)

/-- AND ABSY (R200). -/
def execAndAbsy (base : Word) (s : State) : StepOutcome := .next (logicA (· &&& ·) (.mem (.absy base)) s)

/-- AND INDX (R200). -/
def execAndIndx (zp : Byte) (s : State) : StepOutcome := .next (logicA (· &&& ·) (.mem (.indx zp)) s)

/-- AND INDY (R200). -/
def execAndIndy (zp : Byte) (s : State) : StepOutcome := .next (logicA (· &&& ·) (.mem (.indy zp)) s)

/-- ORA IM (R201). -/
def execOraIm (imm : Byte) (s : State) : StepOutcome := .next (logicA (· ||| ·) (.im imm) s)

/-- ORA ZP (R201). -/
def execOraZp (zp : Byte) (s : State) : StepOutcome := .next (logicA (· ||| ·) (.mem (.zp zp)) s)

/-- ORA ZPX (R201). -/
def execOraZpx (zp : Byte) (s : State) : StepOutcome := .next (logicA (· ||| ·) (.mem (.zpx zp)) s)

/-- ORA ABS (R201). -/
def execOraAbs (addr : Word) (s : State) : StepOutcome := .next (logicA (· ||| ·) (.mem (.abs addr)) s)

/-- ORA ABSX (R201). -/
def execOraAbsx (base : Word) (s : State) : StepOutcome := .next (logicA (· ||| ·) (.mem (.absx base)) s)

/-- ORA ABSY (R201). -/
def execOraAbsy (base : Word) (s : State) : StepOutcome := .next (logicA (· ||| ·) (.mem (.absy base)) s)

/-- ORA INDX (R201). -/
def execOraIndx (zp : Byte) (s : State) : StepOutcome := .next (logicA (· ||| ·) (.mem (.indx zp)) s)

/-- ORA INDY (R201). -/
def execOraIndy (zp : Byte) (s : State) : StepOutcome := .next (logicA (· ||| ·) (.mem (.indy zp)) s)

/-- EOR IM (R202). -/
def execEorIm (imm : Byte) (s : State) : StepOutcome := .next (logicA (· ^^^ ·) (.im imm) s)

/-- EOR ZP (R202). -/
def execEorZp (zp : Byte) (s : State) : StepOutcome := .next (logicA (· ^^^ ·) (.mem (.zp zp)) s)

/-- EOR ZPX (R202). -/
def execEorZpx (zp : Byte) (s : State) : StepOutcome := .next (logicA (· ^^^ ·) (.mem (.zpx zp)) s)

/-- EOR ABS (R202). -/
def execEorAbs (addr : Word) (s : State) : StepOutcome := .next (logicA (· ^^^ ·) (.mem (.abs addr)) s)

/-- EOR ABSX (R202). -/
def execEorAbsx (base : Word) (s : State) : StepOutcome := .next (logicA (· ^^^ ·) (.mem (.absx base)) s)

/-- EOR ABSY (R202). -/
def execEorAbsy (base : Word) (s : State) : StepOutcome := .next (logicA (· ^^^ ·) (.mem (.absy base)) s)

/-- EOR INDX (R202). -/
def execEorIndx (zp : Byte) (s : State) : StepOutcome := .next (logicA (· ^^^ ·) (.mem (.indx zp)) s)

/-- EOR INDY (R202). -/
def execEorIndy (zp : Byte) (s : State) : StepOutcome := .next (logicA (· ^^^ ·) (.mem (.indy zp)) s)

/-- BIT ZP (R203). -/
def execBitZp (zp : Byte) (s : State) : StepOutcome := .next (testBits (.mem (.zp zp)) s)

/-- BIT ABS (R203). -/
def execBitAbs (addr : Word) (s : State) : StepOutcome := .next (testBits (.mem (.abs addr)) s)

end Sys2Proof.Machine
end

