-- ==== Sys2Proof/Machine/Shift.lean ====
section
/-! DEFINITION. Shifts and rotates (47_shifts.md, rules R260 to R263): ShiftOp on A or on memory, with
the ALU functions of rules R138 to R141. -/

namespace Sys2Proof.Machine

/-- ShiftOp in mode ACC (47_shifts.md, rule R103): the operand and the result are A; one cycle. -/
def modifyA (f : Byte → Status → Byte × Status) (s : State) : State :=
  let r := f s.a s.p
  { s.charge 1 with a := r.1, p := r.2 }

/-- ASL ACC (R260). -/
def execAslAcc (s : State) : StepOutcome := .next (modifyA asl s)

/-- ASL ZP (R260). -/
def execAslZp (zp : Byte) (s : State) : StepOutcome := .next (modifyMem asl (.zp zp) s)

/-- ASL ZPX (R260). -/
def execAslZpx (zp : Byte) (s : State) : StepOutcome := .next (modifyMem asl (.zpx zp) s)

/-- ASL ABS (R260). -/
def execAslAbs (addr : Word) (s : State) : StepOutcome := .next (modifyMem asl (.abs addr) s)

/-- ASL ABSX (R260). -/
def execAslAbsx (base : Word) (s : State) : StepOutcome := .next (modifyMem asl (.absx base) s)

/-- LSR ACC (R261). -/
def execLsrAcc (s : State) : StepOutcome := .next (modifyA lsr s)

/-- LSR ZP (R261). -/
def execLsrZp (zp : Byte) (s : State) : StepOutcome := .next (modifyMem lsr (.zp zp) s)

/-- LSR ZPX (R261). -/
def execLsrZpx (zp : Byte) (s : State) : StepOutcome := .next (modifyMem lsr (.zpx zp) s)

/-- LSR ABS (R261). -/
def execLsrAbs (addr : Word) (s : State) : StepOutcome := .next (modifyMem lsr (.abs addr) s)

/-- LSR ABSX (R261). -/
def execLsrAbsx (base : Word) (s : State) : StepOutcome := .next (modifyMem lsr (.absx base) s)

/-- ROL ACC (R262). -/
def execRolAcc (s : State) : StepOutcome := .next (modifyA rol s)

/-- ROL ZP (R262). -/
def execRolZp (zp : Byte) (s : State) : StepOutcome := .next (modifyMem rol (.zp zp) s)

/-- ROL ZPX (R262). -/
def execRolZpx (zp : Byte) (s : State) : StepOutcome := .next (modifyMem rol (.zpx zp) s)

/-- ROL ABS (R262). -/
def execRolAbs (addr : Word) (s : State) : StepOutcome := .next (modifyMem rol (.abs addr) s)

/-- ROL ABSX (R262). -/
def execRolAbsx (base : Word) (s : State) : StepOutcome := .next (modifyMem rol (.absx base) s)

/-- ROR ACC (R263). -/
def execRorAcc (s : State) : StepOutcome := .next (modifyA ror s)

/-- ROR ZP (R263). -/
def execRorZp (zp : Byte) (s : State) : StepOutcome := .next (modifyMem ror (.zp zp) s)

/-- ROR ZPX (R263). -/
def execRorZpx (zp : Byte) (s : State) : StepOutcome := .next (modifyMem ror (.zpx zp) s)

/-- ROR ABS (R263). -/
def execRorAbs (addr : Word) (s : State) : StepOutcome := .next (modifyMem ror (.abs addr) s)

/-- ROR ABSX (R263). -/
def execRorAbsx (base : Word) (s : State) : StepOutcome := .next (modifyMem ror (.absx base) s)

end Sys2Proof.Machine
end

