-- ==== Sys2Proof/Machine/TransferStack.lean ====
section
/-! DEFINITION. Register transfers, pushes and pulls (43_transfers_stack.md, rules R185 to R194). -/

namespace Sys2Proof.Machine

/-- TAX IMP (R185). -/
def execTax (s : State) : StepOutcome := .next ({ s.charge 1 with x := s.a, p := s.p.setNZ s.a })

/-- TAY IMP (R186). -/
def execTay (s : State) : StepOutcome := .next ({ s.charge 1 with y := s.a, p := s.p.setNZ s.a })

/-- TXA IMP (R187). -/
def execTxa (s : State) : StepOutcome := .next ({ s.charge 1 with a := s.x, p := s.p.setNZ s.x })

/-- TYA IMP (R188). -/
def execTya (s : State) : StepOutcome := .next ({ s.charge 1 with a := s.y, p := s.p.setNZ s.y })

/-- TSX IMP (R189). -/
def execTsx (s : State) : StepOutcome := .next ({ s.charge 1 with x := s.sp, p := s.p.setNZ s.sp })

/-- TXS IMP (R190): no flag changes. -/
def execTxs (s : State) : StepOutcome := .next ({ s.charge 1 with sp := s.x })

/-- The shape of PLA (R193): pop into A, Z and N from it, one more cycle. -/
def pullA (s : State) : State :=
  let v := s.pop
  ({ v.2 with a := v.1, p := v.2.p.setNZ v.1 } : State).charge 1

/-- The shape of PLP (R194): pop into the status, B and U becoming 0, one more cycle. -/
def pullStatus (s : State) : State :=
  let v := s.pop
  ({ v.2 with p := Status.pulled v.1 } : State).charge 1

/-- PHA IMP (R191, R382). -/
def execPha (s : State) : StepOutcome := .next ((s.push s.a).chargeNmos 1)

/-- PHP IMP (R192, R382): the stored B and U do not change. -/
def execPhp (s : State) : StepOutcome := .next ((s.push s.p.pushed).chargeNmos 1)

/-- PLA IMP (R193, R382). -/
def execPla (s : State) : StepOutcome := .next ((pullA s).chargeNmos 1)

/-- PLP IMP (R194, R382). -/
def execPlp (s : State) : StepOutcome := .next ((pullStatus s).chargeNmos 1)

end Sys2Proof.Machine
end

