-- ==== Sys2Proof/Machine/Dispatch.lean ====
section
/-! DEFINITION. `exec`: the meaning of every instruction, one arm for each constructor of `Instr`.
It runs after the opcode fetch of rule R74 (30_encoding.md): the PC of the state it is given points
at the first operand byte (rule R100 of 40_addressing_modes.md). -/

namespace Sys2Proof.Machine

def exec (i : Instr) (s : State) : Host.Outcome State Fault Refusal :=
  match i with
  -- Loads and stores
  | .ldaIm imm => Sys2Proof.Machine.execLdaIm imm s
  | .ldaZp zp => Sys2Proof.Machine.execLdaZp zp s
  | .ldaZpx zp => Sys2Proof.Machine.execLdaZpx zp s
  | .ldaAbs addr => Sys2Proof.Machine.execLdaAbs addr s
  | .ldaAbsx base => Sys2Proof.Machine.execLdaAbsx base s
  | .ldaAbsy base => Sys2Proof.Machine.execLdaAbsy base s
  | .ldaIndx zp => Sys2Proof.Machine.execLdaIndx zp s
  | .ldaIndy zp => Sys2Proof.Machine.execLdaIndy zp s
  | .ldxIm imm => Sys2Proof.Machine.execLdxIm imm s
  | .ldxZp zp => Sys2Proof.Machine.execLdxZp zp s
  | .ldxZpy zp => Sys2Proof.Machine.execLdxZpy zp s
  | .ldxAbs addr => Sys2Proof.Machine.execLdxAbs addr s
  | .ldxAbsy base => Sys2Proof.Machine.execLdxAbsy base s
  | .ldyIm imm => Sys2Proof.Machine.execLdyIm imm s
  | .ldyZp zp => Sys2Proof.Machine.execLdyZp zp s
  | .ldyZpx zp => Sys2Proof.Machine.execLdyZpx zp s
  | .ldyAbs addr => Sys2Proof.Machine.execLdyAbs addr s
  | .ldyAbsx base => Sys2Proof.Machine.execLdyAbsx base s
  | .staZp zp => Sys2Proof.Machine.execStaZp zp s
  | .staZpx zp => Sys2Proof.Machine.execStaZpx zp s
  | .staAbs addr => Sys2Proof.Machine.execStaAbs addr s
  | .staAbsx base => Sys2Proof.Machine.execStaAbsx base s
  | .staAbsy base => Sys2Proof.Machine.execStaAbsy base s
  | .staIndx zp => Sys2Proof.Machine.execStaIndx zp s
  | .staIndy zp => Sys2Proof.Machine.execStaIndy zp s
  | .stxZp zp => Sys2Proof.Machine.execStxZp zp s
  | .stxZpy zp => Sys2Proof.Machine.execStxZpy zp s
  | .stxAbs addr => Sys2Proof.Machine.execStxAbs addr s
  | .styZp zp => Sys2Proof.Machine.execStyZp zp s
  | .styZpx zp => Sys2Proof.Machine.execStyZpx zp s
  | .styAbs addr => Sys2Proof.Machine.execStyAbs addr s
  -- Register transfers and stack
  | .tax => Sys2Proof.Machine.execTax s
  | .tay => Sys2Proof.Machine.execTay s
  | .txa => Sys2Proof.Machine.execTxa s
  | .tya => Sys2Proof.Machine.execTya s
  | .tsx => Sys2Proof.Machine.execTsx s
  | .txs => Sys2Proof.Machine.execTxs s
  | .pha => Sys2Proof.Machine.execPha s
  | .php => Sys2Proof.Machine.execPhp s
  | .pla => Sys2Proof.Machine.execPla s
  | .plp => Sys2Proof.Machine.execPlp s
  -- Logical operations and bit test
  | .andIm imm => Sys2Proof.Machine.execAndIm imm s
  | .andZp zp => Sys2Proof.Machine.execAndZp zp s
  | .andZpx zp => Sys2Proof.Machine.execAndZpx zp s
  | .andAbs addr => Sys2Proof.Machine.execAndAbs addr s
  | .andAbsx base => Sys2Proof.Machine.execAndAbsx base s
  | .andAbsy base => Sys2Proof.Machine.execAndAbsy base s
  | .andIndx zp => Sys2Proof.Machine.execAndIndx zp s
  | .andIndy zp => Sys2Proof.Machine.execAndIndy zp s
  | .oraIm imm => Sys2Proof.Machine.execOraIm imm s
  | .oraZp zp => Sys2Proof.Machine.execOraZp zp s
  | .oraZpx zp => Sys2Proof.Machine.execOraZpx zp s
  | .oraAbs addr => Sys2Proof.Machine.execOraAbs addr s
  | .oraAbsx base => Sys2Proof.Machine.execOraAbsx base s
  | .oraAbsy base => Sys2Proof.Machine.execOraAbsy base s
  | .oraIndx zp => Sys2Proof.Machine.execOraIndx zp s
  | .oraIndy zp => Sys2Proof.Machine.execOraIndy zp s
  | .eorIm imm => Sys2Proof.Machine.execEorIm imm s
  | .eorZp zp => Sys2Proof.Machine.execEorZp zp s
  | .eorZpx zp => Sys2Proof.Machine.execEorZpx zp s
  | .eorAbs addr => Sys2Proof.Machine.execEorAbs addr s
  | .eorAbsx base => Sys2Proof.Machine.execEorAbsx base s
  | .eorAbsy base => Sys2Proof.Machine.execEorAbsy base s
  | .eorIndx zp => Sys2Proof.Machine.execEorIndx zp s
  | .eorIndy zp => Sys2Proof.Machine.execEorIndy zp s
  | .bitZp zp => Sys2Proof.Machine.execBitZp zp s
  | .bitAbs addr => Sys2Proof.Machine.execBitAbs addr s
  -- Increments and decrements
  | .inx => Sys2Proof.Machine.execInx s
  | .iny => Sys2Proof.Machine.execIny s
  | .dex => Sys2Proof.Machine.execDex s
  | .dey => Sys2Proof.Machine.execDey s
  | .incZp zp => Sys2Proof.Machine.execIncZp zp s
  | .incZpx zp => Sys2Proof.Machine.execIncZpx zp s
  | .incAbs addr => Sys2Proof.Machine.execIncAbs addr s
  | .incAbsx base => Sys2Proof.Machine.execIncAbsx base s
  | .decZp zp => Sys2Proof.Machine.execDecZp zp s
  | .decZpx zp => Sys2Proof.Machine.execDecZpx zp s
  | .decAbs addr => Sys2Proof.Machine.execDecAbs addr s
  | .decAbsx base => Sys2Proof.Machine.execDecAbsx base s
  -- Addition, subtraction and compare
  | .adcIm imm => Sys2Proof.Machine.execAdcIm imm s
  | .adcZp zp => Sys2Proof.Machine.execAdcZp zp s
  | .adcZpx zp => Sys2Proof.Machine.execAdcZpx zp s
  | .adcAbs addr => Sys2Proof.Machine.execAdcAbs addr s
  | .adcAbsx base => Sys2Proof.Machine.execAdcAbsx base s
  | .adcAbsy base => Sys2Proof.Machine.execAdcAbsy base s
  | .adcIndx zp => Sys2Proof.Machine.execAdcIndx zp s
  | .adcIndy zp => Sys2Proof.Machine.execAdcIndy zp s
  | .sbcIm imm => Sys2Proof.Machine.execSbcIm imm s
  | .sbcZp zp => Sys2Proof.Machine.execSbcZp zp s
  | .sbcZpx zp => Sys2Proof.Machine.execSbcZpx zp s
  | .sbcAbs addr => Sys2Proof.Machine.execSbcAbs addr s
  | .sbcAbsx base => Sys2Proof.Machine.execSbcAbsx base s
  | .sbcAbsy base => Sys2Proof.Machine.execSbcAbsy base s
  | .sbcIndx zp => Sys2Proof.Machine.execSbcIndx zp s
  | .sbcIndy zp => Sys2Proof.Machine.execSbcIndy zp s
  | .cmpIm imm => Sys2Proof.Machine.execCmpIm imm s
  | .cmpZp zp => Sys2Proof.Machine.execCmpZp zp s
  | .cmpZpx zp => Sys2Proof.Machine.execCmpZpx zp s
  | .cmpAbs addr => Sys2Proof.Machine.execCmpAbs addr s
  | .cmpAbsx base => Sys2Proof.Machine.execCmpAbsx base s
  | .cmpAbsy base => Sys2Proof.Machine.execCmpAbsy base s
  | .cmpIndx zp => Sys2Proof.Machine.execCmpIndx zp s
  | .cmpIndy zp => Sys2Proof.Machine.execCmpIndy zp s
  | .cpxIm imm => Sys2Proof.Machine.execCpxIm imm s
  | .cpxZp zp => Sys2Proof.Machine.execCpxZp zp s
  | .cpxAbs addr => Sys2Proof.Machine.execCpxAbs addr s
  | .cpyIm imm => Sys2Proof.Machine.execCpyIm imm s
  | .cpyZp zp => Sys2Proof.Machine.execCpyZp zp s
  | .cpyAbs addr => Sys2Proof.Machine.execCpyAbs addr s
  -- Shifts and rotates
  | .aslAcc => Sys2Proof.Machine.execAslAcc s
  | .aslZp zp => Sys2Proof.Machine.execAslZp zp s
  | .aslZpx zp => Sys2Proof.Machine.execAslZpx zp s
  | .aslAbs addr => Sys2Proof.Machine.execAslAbs addr s
  | .aslAbsx base => Sys2Proof.Machine.execAslAbsx base s
  | .lsrAcc => Sys2Proof.Machine.execLsrAcc s
  | .lsrZp zp => Sys2Proof.Machine.execLsrZp zp s
  | .lsrZpx zp => Sys2Proof.Machine.execLsrZpx zp s
  | .lsrAbs addr => Sys2Proof.Machine.execLsrAbs addr s
  | .lsrAbsx base => Sys2Proof.Machine.execLsrAbsx base s
  | .rolAcc => Sys2Proof.Machine.execRolAcc s
  | .rolZp zp => Sys2Proof.Machine.execRolZp zp s
  | .rolZpx zp => Sys2Proof.Machine.execRolZpx zp s
  | .rolAbs addr => Sys2Proof.Machine.execRolAbs addr s
  | .rolAbsx base => Sys2Proof.Machine.execRolAbsx base s
  | .rorAcc => Sys2Proof.Machine.execRorAcc s
  | .rorZp zp => Sys2Proof.Machine.execRorZp zp s
  | .rorZpx zp => Sys2Proof.Machine.execRorZpx zp s
  | .rorAbs addr => Sys2Proof.Machine.execRorAbs addr s
  | .rorAbsx base => Sys2Proof.Machine.execRorAbsx base s
  -- Jumps, calls and branches
  | .jmpAbs addr => Sys2Proof.Machine.execJmpAbs addr s
  | .jmpInd ptr => Sys2Proof.Machine.execJmpInd ptr s
  | .jsrAbs addr => Sys2Proof.Machine.execJsrAbs addr s
  | .rts => Sys2Proof.Machine.execRts s
  | .bcc disp => Sys2Proof.Machine.execBcc disp s
  | .bcs disp => Sys2Proof.Machine.execBcs disp s
  | .beq disp => Sys2Proof.Machine.execBeq disp s
  | .bmi disp => Sys2Proof.Machine.execBmi disp s
  | .bne disp => Sys2Proof.Machine.execBne disp s
  | .bpl disp => Sys2Proof.Machine.execBpl disp s
  | .bvc disp => Sys2Proof.Machine.execBvc disp s
  | .bvs disp => Sys2Proof.Machine.execBvs disp s
  -- Flag operations, no-operation, trap and return
  | .clc => Sys2Proof.Machine.execClc s
  | .cld => Sys2Proof.Machine.execCld s
  | .cli => Sys2Proof.Machine.execCli s
  | .clv => Sys2Proof.Machine.execClv s
  | .sec => Sys2Proof.Machine.execSec s
  | .sed => Sys2Proof.Machine.execSed s
  | .sei => Sys2Proof.Machine.execSei s
  | .nop => Sys2Proof.Machine.execNop s
  | .brk => Sys2Proof.Machine.execBrk s
  | .rti => Sys2Proof.Machine.execRti s

end Sys2Proof.Machine
end

