-- ==== Sys2Proof/Machine/Step.lean ====
section
/-! DEFINITION. One step of the core (rule R74 of 30_encoding.md) with the three outcomes of rule R340
(60_exceptions.md). -/

namespace Sys2Proof.Machine

/-- `step()` (rules R74 and R340): refused unless the run state is `ready`; otherwise fetch the opcode
byte at PC and run the instruction it decodes to, or raise DecodeError. -/
def step (s : State) : Host.Outcome State Fault Refusal :=
  match s.runState with
  | .ready =>
    match s.instrAtPc with
    | some i => exec i (s.fetched 1)
    | none => .fault (.decodeError s.opcodeAtPc s.pc)
  | .uninitialised => .refused .notReady
  | .faulted _ _ => .refused .notReady

/-- `s` with an instruction's table word stored where the next step fetches, bytes past `nbits` being 0,
and the core ready to run it (log entry 6: this stands for the load of rule R373). -/
def State.withFetchWord (s : State) (nbits w : Nat) : State :=
  s.withBytesAtPc (tableBytes nbits w)

end Sys2Proof.Machine
end

