-- ==== Sys2Proof/Machine/HostPort.lean ====
section
/-! DEFINITION. The host contract of the core (rule R3 of 00_scope.md; 70_reset_and_hazards.md): reset,
the loader, host reads and writes of the state, the execute loop, and the trigger of the diagnostic
channel. All of it happens between steps (rule R380). -/

namespace Sys2Proof.Machine

/-- `reset(entryPC)` (rule R370), allowed in every run state; the parameters of rule R6 stay. -/
def State.hostReset (s : State) (entryPC : Word) : State :=
  { State.resetAt entryPC with cfg := s.cfg }

/-! ### The loader (rule R373) -/

/-- The address in an image's first two bytes and the program bytes after them; `none` for an image
without two bytes (log entry 20). -/
def imageParts : List Byte → Option (Word × List Byte)
  | lo :: hi :: program => some (leWord lo hi, program)
  | _ => none

/-- The loader (rule R373): the program bytes at the load address on, addresses wrapping past 0xFFFF (the
spec's D22, log entry 20); it answers the load address. It changes no register and runs in every run
state (log entry 18). -/
def State.load (s : State) (image : List Byte) : Option (Word × State) :=
  (imageParts image).map fun parts => (parts.1, { s with mem := s.mem.place parts.1 parts.2 })

/-! ### Host reads and writes (rule R380) -/

/-- The flags the host may write: all but U (rule R380). -/
inductive HostFlag where
  | n | v | b | d | i | z | c
  deriving DecidableEq, Repr

/-- The host's writes of one field (rule R380). -/
inductive HostWrite where
  | a (value : Byte)
  | x (value : Byte)
  | y (value : Byte)
  | sp (value : Byte)
  | pc (value : Word)
  | flag (which : HostFlag) (value : Bool)
  | cell (addr : Word) (value : Byte)
  deriving DecidableEq, Repr

/-- One flag written, the others kept. -/
def Status.hostSet (p : Status) (which : HostFlag) (value : Bool) : Status :=
  match which with
  | .n => { p with n := value }
  | .v => { p with v := value }
  | .b => { p with b := value }
  | .d => { p with d := value }
  | .i => { p with i := value }
  | .z => { p with z := value }
  | .c => { p with c := value }

/-- The state after a host write of a core that is ready. -/
def State.written (s : State) (w : HostWrite) : State :=
  match w with
  | .a value => { s with a := value }
  | .x value => { s with x := value }
  | .y value => { s with y := value }
  | .sp value => { s with sp := value }
  | .pc value => { s with pc := value }
  | .flag which value => { s with p := s.p.hostSet which value }
  | .cell addr value => { s with mem := s.mem.write addr value }

/-- A host write (rule R380), in `ready` only: one field changes. -/
def State.hostWrite (s : State) (w : HostWrite) : Host.Outcome State Fault Refusal :=
  match s.runState with
  | .ready => .next (s.written w)
  | .uninitialised => .refused .notReady
  | .faulted _ _ => .refused .notReady

/-- What the host may read (rule R380). -/
inductive HostRead where
  | a | x | y | sp | pc | status | cell (addr : Word) | decNotice | runState
  deriving DecidableEq, Repr

/-- What a host read gives. -/
inductive HostValue where
  | byte (value : Byte)
  | word (value : Word)
  | status (value : Status)
  | bit (value : Bool)
  | run (value : RunState)
  deriving DecidableEq, Repr

/-- The value of the field a host read names. -/
def State.readField (s : State) (r : HostRead) : HostValue :=
  match r with
  | .a => .byte s.a
  | .x => .byte s.x
  | .y => .byte s.y
  | .sp => .byte s.sp
  | .pc => .word s.pc
  | .status => .status s.p
  | .cell addr => .byte (s.mem.read addr)
  | .decNotice => .bit s.decNotice
  | .runState => .run s.runState

/-- A host read (rule R380). Before the first reset no register, flag or cell may be read (R372), so only
the run state is answered (log entry 18). -/
def State.hostRead (s : State) (r : HostRead) : Option HostValue :=
  match s.runState, r with
  | .uninitialised, .runState => some (s.readField .runState)
  | .uninitialised, _ => none
  | _, r => some (s.readField r)

/-! ### The execute loop (rules R374 to R379) -/

/-- What `execute` returns (rules R374 and R380). -/
inductive ExecuteResult where
  | ok (consumed : Int)
  | decodeError (opcode : Byte) (addr : Word)
  | refused
  deriving DecidableEq, Repr

/-- The loop of rule R374: steps while `cyc > 0`, at most `fuel` of them; it answers the fault that ended
it, if one did, and the state. A step costs at least 2 cycles, so `fuel = budget` never cuts it short
(log entry 21). -/
def executeLoop : Nat → State → Option Fault × State
  | 0, s => (none, s)
  | fuel + 1, s =>
    if 0 < s.cyc then
      match step s with
      | .next t => executeLoop fuel t
      | .fault (.decodeError opcode addr) =>
        (some (.decodeError opcode addr), s.raiseDecodeError opcode addr)
      | .refused _ => (none, s)
    else (none, s)

/-- `cyc` is not held across calls (rules R38, R379): its value between them is the model's (log entry 2). -/
def State.endCall (s : State) : State := { s with cyc := State.idleCyc }

/-- `execute(budget)` (rules R374 to R379): what it returns and the state it leaves. -/
def State.execute (s : State) (budget : Int) : ExecuteResult × State :=
  match s.runState with
  | .ready =>
    match executeLoop budget.toNat { s with cyc := budget } with
    | (none, t) => (.ok (budget - t.cyc), t.endCall)
    | (some (.decodeError opcode addr), t) => (.decodeError opcode addr, t.endCall)
  | .uninitialised => (.refused, s)
  | .faulted _ _ => (.refused, s)

/-- The diagnostic channel gives the decimal-mode text when `decNotice` rises (rules R342 and R380). -/
def decimalDiagnostic (before after : State) : Bool := !before.decNotice && after.decNotice

end Sys2Proof.Machine
end

