-- ==== Sys2Proof/Safety.lean ====
section
/-! DEFINITION. What claims call a sound state, and what the host can do to a core. -/

namespace Sys2Proof.Machine

/-- A sound state: its memory is in canonical form (log entry 16) and U holds 0, as it does at all times
(rule R35 of 10_state.md). -/
structure State.Sound (s : State) : Prop where
  memory : s.mem.wf = true
  unused : s.p.u = false

/-- The moves of the host that change the state (rule R380 of 70_reset_and_hazards.md). -/
inductive HostMove where
  | reset (entryPC : Word)
  | load (image : List Byte)
  | write (w : HostWrite)
  | execute (budget : Int)
  deriving DecidableEq, Repr

/-- The state after a move of the host; a refused or ill-formed move changes nothing. -/
def State.afterMove (s : State) (move : HostMove) : State :=
  match move with
  | .reset entryPC => s.hostReset entryPC
  | .load image =>
    match s.load image with
    | some (_, t) => t
    | none => s
  | .write w =>
    match s.hostWrite w with
    | .next t => t
    | .fault _ => s
    | .refused _ => s
  | .execute budget => (s.execute budget).2

/-- The state after a list of moves, first to last. -/
def State.afterMoves (s : State) (moves : List HostMove) : State := moves.foldl State.afterMove s

/-- A safe run: from `s`, `k` steps end in a next state, with no fault and no refusal. -/
def State.RunsSafely (s : State) : Nat → Prop
  | 0 => True
  | k + 1 => ∃ t, step s = .next t ∧ t.RunsSafely k

end Sys2Proof.Machine
end

