-- ==== Sys2Proof/Certificates/Slice0/Obligations.lean ====
section
/-! DEFINITION. The statements about the core for the provers, and the words they are written in: the
forms of an instruction by rule R77, addresses, cycles and flags as numbers, and the cycle table of rule
R383 (70_reset_and_hazards.md). A statement about `exec` is about the state after the opcode fetch (rule
R74 of 30_encoding.md), whose PC is the address of the first operand byte. -/

open Sys2Proof Sys2Proof.Machine

namespace Sys2Proof.Spec

/-! ### Forms (rule R77) -/

/-- The forms of LDA that take an operand in memory or an immediate (rule R77). -/
def ldaForm : ReadOperand → Option Instr
  | .im v => some (.ldaIm v)
  | .mem (.zp k) => some (.ldaZp k)
  | .mem (.zpx k) => some (.ldaZpx k)
  | .mem (.zpy _) => none
  | .mem (.abs k) => some (.ldaAbs k)
  | .mem (.absx k) => some (.ldaAbsx k)
  | .mem (.absy k) => some (.ldaAbsy k)
  | .mem (.indx k) => some (.ldaIndx k)
  | .mem (.indy k) => some (.ldaIndy k)

/-- The forms of LDX that take an operand in memory or an immediate (rule R77). -/
def ldxForm : ReadOperand → Option Instr
  | .im v => some (.ldxIm v)
  | .mem (.zp k) => some (.ldxZp k)
  | .mem (.zpx _) => none
  | .mem (.zpy k) => some (.ldxZpy k)
  | .mem (.abs k) => some (.ldxAbs k)
  | .mem (.absx _) => none
  | .mem (.absy k) => some (.ldxAbsy k)
  | .mem (.indx _) => none
  | .mem (.indy _) => none

/-- The forms of LDY that take an operand in memory or an immediate (rule R77). -/
def ldyForm : ReadOperand → Option Instr
  | .im v => some (.ldyIm v)
  | .mem (.zp k) => some (.ldyZp k)
  | .mem (.zpx k) => some (.ldyZpx k)
  | .mem (.zpy _) => none
  | .mem (.abs k) => some (.ldyAbs k)
  | .mem (.absx k) => some (.ldyAbsx k)
  | .mem (.absy _) => none
  | .mem (.indx _) => none
  | .mem (.indy _) => none

/-- The forms of AND that take an operand in memory or an immediate (rule R77). -/
def andForm : ReadOperand → Option Instr
  | .im v => some (.andIm v)
  | .mem (.zp k) => some (.andZp k)
  | .mem (.zpx k) => some (.andZpx k)
  | .mem (.zpy _) => none
  | .mem (.abs k) => some (.andAbs k)
  | .mem (.absx k) => some (.andAbsx k)
  | .mem (.absy k) => some (.andAbsy k)
  | .mem (.indx k) => some (.andIndx k)
  | .mem (.indy k) => some (.andIndy k)

/-- The forms of ORA that take an operand in memory or an immediate (rule R77). -/
def oraForm : ReadOperand → Option Instr
  | .im v => some (.oraIm v)
  | .mem (.zp k) => some (.oraZp k)
  | .mem (.zpx k) => some (.oraZpx k)
  | .mem (.zpy _) => none
  | .mem (.abs k) => some (.oraAbs k)
  | .mem (.absx k) => some (.oraAbsx k)
  | .mem (.absy k) => some (.oraAbsy k)
  | .mem (.indx k) => some (.oraIndx k)
  | .mem (.indy k) => some (.oraIndy k)

/-- The forms of EOR that take an operand in memory or an immediate (rule R77). -/
def eorForm : ReadOperand → Option Instr
  | .im v => some (.eorIm v)
  | .mem (.zp k) => some (.eorZp k)
  | .mem (.zpx k) => some (.eorZpx k)
  | .mem (.zpy _) => none
  | .mem (.abs k) => some (.eorAbs k)
  | .mem (.absx k) => some (.eorAbsx k)
  | .mem (.absy k) => some (.eorAbsy k)
  | .mem (.indx k) => some (.eorIndx k)
  | .mem (.indy k) => some (.eorIndy k)

/-- The forms of BIT that take an operand in memory or an immediate (rule R77). -/
def bitForm : ReadOperand → Option Instr
  | .im _ => none
  | .mem (.zp k) => some (.bitZp k)
  | .mem (.zpx _) => none
  | .mem (.zpy _) => none
  | .mem (.abs k) => some (.bitAbs k)
  | .mem (.absx _) => none
  | .mem (.absy _) => none
  | .mem (.indx _) => none
  | .mem (.indy _) => none

/-- The forms of ADC that take an operand in memory or an immediate (rule R77). -/
def adcForm : ReadOperand → Option Instr
  | .im v => some (.adcIm v)
  | .mem (.zp k) => some (.adcZp k)
  | .mem (.zpx k) => some (.adcZpx k)
  | .mem (.zpy _) => none
  | .mem (.abs k) => some (.adcAbs k)
  | .mem (.absx k) => some (.adcAbsx k)
  | .mem (.absy k) => some (.adcAbsy k)
  | .mem (.indx k) => some (.adcIndx k)
  | .mem (.indy k) => some (.adcIndy k)

/-- The forms of SBC that take an operand in memory or an immediate (rule R77). -/
def sbcForm : ReadOperand → Option Instr
  | .im v => some (.sbcIm v)
  | .mem (.zp k) => some (.sbcZp k)
  | .mem (.zpx k) => some (.sbcZpx k)
  | .mem (.zpy _) => none
  | .mem (.abs k) => some (.sbcAbs k)
  | .mem (.absx k) => some (.sbcAbsx k)
  | .mem (.absy k) => some (.sbcAbsy k)
  | .mem (.indx k) => some (.sbcIndx k)
  | .mem (.indy k) => some (.sbcIndy k)

/-- The forms of CMP that take an operand in memory or an immediate (rule R77). -/
def cmpForm : ReadOperand → Option Instr
  | .im v => some (.cmpIm v)
  | .mem (.zp k) => some (.cmpZp k)
  | .mem (.zpx k) => some (.cmpZpx k)
  | .mem (.zpy _) => none
  | .mem (.abs k) => some (.cmpAbs k)
  | .mem (.absx k) => some (.cmpAbsx k)
  | .mem (.absy k) => some (.cmpAbsy k)
  | .mem (.indx k) => some (.cmpIndx k)
  | .mem (.indy k) => some (.cmpIndy k)

/-- The forms of CPX that take an operand in memory or an immediate (rule R77). -/
def cpxForm : ReadOperand → Option Instr
  | .im v => some (.cpxIm v)
  | .mem (.zp k) => some (.cpxZp k)
  | .mem (.zpx _) => none
  | .mem (.zpy _) => none
  | .mem (.abs k) => some (.cpxAbs k)
  | .mem (.absx _) => none
  | .mem (.absy _) => none
  | .mem (.indx _) => none
  | .mem (.indy _) => none

/-- The forms of CPY that take an operand in memory or an immediate (rule R77). -/
def cpyForm : ReadOperand → Option Instr
  | .im v => some (.cpyIm v)
  | .mem (.zp k) => some (.cpyZp k)
  | .mem (.zpx _) => none
  | .mem (.zpy _) => none
  | .mem (.abs k) => some (.cpyAbs k)
  | .mem (.absx _) => none
  | .mem (.absy _) => none
  | .mem (.indx _) => none
  | .mem (.indy _) => none

/-- The forms of STA that take an operand in memory (rule R77). -/
def staForm : MemOperand → Option Instr
  | .zp k => some (.staZp k)
  | .zpx k => some (.staZpx k)
  | .zpy _ => none
  | .abs k => some (.staAbs k)
  | .absx k => some (.staAbsx k)
  | .absy k => some (.staAbsy k)
  | .indx k => some (.staIndx k)
  | .indy k => some (.staIndy k)

/-- The forms of STX that take an operand in memory (rule R77). -/
def stxForm : MemOperand → Option Instr
  | .zp k => some (.stxZp k)
  | .zpx _ => none
  | .zpy k => some (.stxZpy k)
  | .abs k => some (.stxAbs k)
  | .absx _ => none
  | .absy _ => none
  | .indx _ => none
  | .indy _ => none

/-- The forms of STY that take an operand in memory (rule R77). -/
def styForm : MemOperand → Option Instr
  | .zp k => some (.styZp k)
  | .zpx k => some (.styZpx k)
  | .zpy _ => none
  | .abs k => some (.styAbs k)
  | .absx _ => none
  | .absy _ => none
  | .indx _ => none
  | .indy _ => none

/-- The forms of INC that take an operand in memory (rule R77). -/
def incForm : MemOperand → Option Instr
  | .zp k => some (.incZp k)
  | .zpx k => some (.incZpx k)
  | .zpy _ => none
  | .abs k => some (.incAbs k)
  | .absx k => some (.incAbsx k)
  | .absy _ => none
  | .indx _ => none
  | .indy _ => none

/-- The forms of DEC that take an operand in memory (rule R77). -/
def decForm : MemOperand → Option Instr
  | .zp k => some (.decZp k)
  | .zpx k => some (.decZpx k)
  | .zpy _ => none
  | .abs k => some (.decAbs k)
  | .absx k => some (.decAbsx k)
  | .absy _ => none
  | .indx _ => none
  | .indy _ => none

/-- The forms of ASL that take an operand in memory (rule R77). -/
def aslForm : MemOperand → Option Instr
  | .zp k => some (.aslZp k)
  | .zpx k => some (.aslZpx k)
  | .zpy _ => none
  | .abs k => some (.aslAbs k)
  | .absx k => some (.aslAbsx k)
  | .absy _ => none
  | .indx _ => none
  | .indy _ => none

/-- The forms of LSR that take an operand in memory (rule R77). -/
def lsrForm : MemOperand → Option Instr
  | .zp k => some (.lsrZp k)
  | .zpx k => some (.lsrZpx k)
  | .zpy _ => none
  | .abs k => some (.lsrAbs k)
  | .absx k => some (.lsrAbsx k)
  | .absy _ => none
  | .indx _ => none
  | .indy _ => none

/-- The forms of ROL that take an operand in memory (rule R77). -/
def rolForm : MemOperand → Option Instr
  | .zp k => some (.rolZp k)
  | .zpx k => some (.rolZpx k)
  | .zpy _ => none
  | .abs k => some (.rolAbs k)
  | .absx k => some (.rolAbsx k)
  | .absy _ => none
  | .indx _ => none
  | .indy _ => none

/-- The forms of ROR that take an operand in memory (rule R77). -/
def rorForm : MemOperand → Option Instr
  | .zp k => some (.rorZp k)
  | .zpx k => some (.rorZpx k)
  | .zpy _ => none
  | .abs k => some (.rorAbs k)
  | .absx k => some (.rorAbsx k)
  | .absy _ => none
  | .indx _ => none
  | .indy _ => none

/-- The instructions that store to an effective address: STA, STX, STY and the read-modify-writes. -/
def storeForms : List (MemOperand → Option Instr) :=
  [staForm, stxForm, styForm, incForm, decForm, aslForm, lsrForm, rolForm, rorForm]

/-! ### Addresses and cycles as numbers (40_addressing_modes.md) -/

/-- The number of operand bytes of a mode in memory (rule R71). -/
def modeBytes : MemOperand → Nat
  | .zp _ | .zpx _ | .zpy _ | .indx _ | .indy _ => 1
  | .abs _ | .absx _ | .absy _ => 2

/-- The word at an address of page zero, its second byte in page zero too (rule R120). -/
def pointerAt (s : State) (p : Nat) : Nat :=
  (s.mem.read (BitVec.ofNat 16 p)).toNat + 256 * (s.mem.read (BitVec.ofNat 16 ((p + 1) % 256))).toNat

/-- The effective address of each mode (rules R105 to R113, R120). -/
def address (m : MemOperand) (s : State) : Nat :=
  match m with
  | .zp b => b.toNat
  | .zpx b => (b.toNat + s.x.toNat) % 256
  | .zpy b => (b.toNat + s.y.toNat) % 256
  | .abs w => w.toNat
  | .absx w => (w.toNat + s.x.toNat) % 65536
  | .absy w => (w.toNat + s.y.toNat) % 65536
  | .indx b => pointerAt s ((b.toNat + s.x.toNat) % 256)
  | .indy b => (pointerAt s b.toNat + s.y.toNat) % 65536

/-- 1 when two addresses lie in different pages, else 0 (rule R101). -/
def crosses (base ea : Nat) : Nat := if ea / 256 = base / 256 then 0 else 1

/-- The page-cross cycle of an indexed mode, or its always-penalty form (rules R109, R110, R112, R113). -/
def penalty (variant : Variant) (base ea : Nat) : Nat :=
  match variant with
  | .read => crosses base ea
  | .always => 1

/-- The cycles of each mode after the opcode fetch, without the access at the address (rules R105 to R113).
The pointer of INDY is the model's own reading of it, so that nothing here rests on where a pointer at 0xFF
has its high byte; `Obligations.PointerModesReadPageZero` says that. -/
def modeCycles (variant : Variant) (m : MemOperand) (s : State) : Nat :=
  match m with
  | .zp _ => 1
  | .zpx _ | .zpy _ => 2
  | .abs _ => 2
  | .absx w => 2 + penalty variant w.toNat (address m s)
  | .absy w => 2 + penalty variant w.toNat (address m s)
  | .indx _ => 4
  | .indy b => 3 + penalty variant (zpReadWord b s).1.toNat (effectiveAddress variant m s).1.toNat

/-- The operand bytes of a read instruction's form. -/
def operandBytes : ReadOperand → Nat
  | .im _ => 1
  | .mem m => modeBytes m

/-- The cycles of a read instruction's form after the opcode fetch (rules R104, R116, R118). -/
def operandCycles (o : ReadOperand) (s : State) : Nat :=
  match o with
  | .im _ => 1
  | .mem m => modeCycles .read m s + 1

/-- PC `n` bytes on, modulo 65,536 (rule R26). -/
def pcPast (s : State) (n : Nat) : Word := BitVec.ofNat 16 ((s.pc.toNat + n) % 65536)

/-- `setNZ(v)` with bit 7 as a comparison (rule R130). -/
def nz (p : Status) (v : Byte) : Status := { p with z := decide (v = 0), n := decide (128 ≤ v.toNat) }

/-- 1 under CYCLE_TABLE = nmos, else 0 (rule R382). -/
def nmosOne (s : State) : Nat := if s.cfg.cycleTable = .nmos then 1 else 0

/-- The target of a branch whose displacement byte is at PC (rule R115). -/
def branchTarget (disp : Byte) (s : State) : Nat :=
  ((((s.pc.toNat + 1) % 65536 : Nat) + disp.toInt) % 65536).toNat

/-- The cycles a branch adds: one if taken, one more to another page (rule R283). -/
def branchCycles (taken : Bool) (disp : Byte) (s : State) : Nat :=
  if taken then 1 + crosses ((s.pc.toNat + 1) % 65536) (branchTarget disp s) else 0

/-! ### The cost table (rule R383) -/

/-- Column `doc`. -/
def docCycles : Instr → Nat
  | .ldaIm _ | .ldxIm _ | .ldyIm _ | .tax | .tay | .txa
  | .tya | .tsx | .txs | .pha | .php | .andIm _
  | .oraIm _ | .eorIm _ | .inx | .iny | .dex | .dey
  | .adcIm _ | .sbcIm _ | .cmpIm _ | .cpxIm _ | .cpyIm _ | .aslAcc
  | .lsrAcc | .rolAcc | .rorAcc | .bcc _ | .bcs _ | .beq _
  | .bmi _ | .bne _ | .bpl _ | .bvc _ | .bvs _ | .clc
  | .cld | .cli | .clv | .sec | .sed | .sei
  | .nop => 2
  | .ldaZp _ | .ldxZp _ | .ldyZp _ | .staZp _ | .stxZp _ | .styZp _
  | .pla | .plp | .andZp _ | .oraZp _ | .eorZp _ | .bitZp _
  | .adcZp _ | .sbcZp _ | .cmpZp _ | .cpxZp _ | .cpyZp _ | .jmpAbs _ => 3
  | .ldaZpx _ | .ldaAbs _ | .ldaAbsx _ | .ldaAbsy _ | .ldxZpy _ | .ldxAbs _
  | .ldxAbsy _ | .ldyZpx _ | .ldyAbs _ | .ldyAbsx _ | .staZpx _ | .staAbs _
  | .stxZpy _ | .stxAbs _ | .styZpx _ | .styAbs _ | .andZpx _ | .andAbs _
  | .andAbsx _ | .andAbsy _ | .oraZpx _ | .oraAbs _ | .oraAbsx _ | .oraAbsy _
  | .eorZpx _ | .eorAbs _ | .eorAbsx _ | .eorAbsy _ | .bitAbs _ | .adcZpx _
  | .adcAbs _ | .adcAbsx _ | .adcAbsy _ | .sbcZpx _ | .sbcAbs _ | .sbcAbsx _
  | .sbcAbsy _ | .cmpZpx _ | .cmpAbs _ | .cmpAbsx _ | .cmpAbsy _ | .cpxAbs _
  | .cpyAbs _ | .rti => 4
  | .ldaIndy _ | .staAbsx _ | .staAbsy _ | .andIndy _ | .oraIndy _ | .eorIndy _
  | .incZp _ | .decZp _ | .adcIndy _ | .sbcIndy _ | .cmpIndy _ | .aslZp _
  | .lsrZp _ | .rolZp _ | .rorZp _ | .jmpInd _ | .rts => 5
  | .ldaIndx _ | .staIndx _ | .staIndy _ | .andIndx _ | .oraIndx _ | .eorIndx _
  | .incZpx _ | .incAbs _ | .decZpx _ | .decAbs _ | .adcIndx _ | .sbcIndx _
  | .cmpIndx _ | .aslZpx _ | .aslAbs _ | .lsrZpx _ | .lsrAbs _ | .rolZpx _
  | .rolAbs _ | .rorZpx _ | .rorAbs _ | .jsrAbs _ | .brk => 6
  | .incAbsx _ | .decAbsx _ | .aslAbsx _ | .lsrAbsx _ | .rolAbsx _ | .rorAbsx _ => 7

/-- Column `nmos`. -/
def nmosCycles : Instr → Nat
  | .ldaIm _ | .ldxIm _ | .ldyIm _ | .tax | .tay | .txa
  | .tya | .tsx | .txs | .andIm _ | .oraIm _ | .eorIm _
  | .inx | .iny | .dex | .dey | .adcIm _ | .sbcIm _
  | .cmpIm _ | .cpxIm _ | .cpyIm _ | .aslAcc | .lsrAcc | .rolAcc
  | .rorAcc | .bcc _ | .bcs _ | .beq _ | .bmi _ | .bne _
  | .bpl _ | .bvc _ | .bvs _ | .clc | .cld | .cli
  | .clv | .sec | .sed | .sei | .nop => 2
  | .ldaZp _ | .ldxZp _ | .ldyZp _ | .staZp _ | .stxZp _ | .styZp _
  | .pha | .php | .andZp _ | .oraZp _ | .eorZp _ | .bitZp _
  | .adcZp _ | .sbcZp _ | .cmpZp _ | .cpxZp _ | .cpyZp _ | .jmpAbs _ => 3
  | .ldaZpx _ | .ldaAbs _ | .ldaAbsx _ | .ldaAbsy _ | .ldxZpy _ | .ldxAbs _
  | .ldxAbsy _ | .ldyZpx _ | .ldyAbs _ | .ldyAbsx _ | .staZpx _ | .staAbs _
  | .stxZpy _ | .stxAbs _ | .styZpx _ | .styAbs _ | .pla | .plp
  | .andZpx _ | .andAbs _ | .andAbsx _ | .andAbsy _ | .oraZpx _ | .oraAbs _
  | .oraAbsx _ | .oraAbsy _ | .eorZpx _ | .eorAbs _ | .eorAbsx _ | .eorAbsy _
  | .bitAbs _ | .adcZpx _ | .adcAbs _ | .adcAbsx _ | .adcAbsy _ | .sbcZpx _
  | .sbcAbs _ | .sbcAbsx _ | .sbcAbsy _ | .cmpZpx _ | .cmpAbs _ | .cmpAbsx _
  | .cmpAbsy _ | .cpxAbs _ | .cpyAbs _ => 4
  | .ldaIndy _ | .staAbsx _ | .staAbsy _ | .andIndy _ | .oraIndy _ | .eorIndy _
  | .incZp _ | .decZp _ | .adcIndy _ | .sbcIndy _ | .cmpIndy _ | .aslZp _
  | .lsrZp _ | .rolZp _ | .rorZp _ | .jmpInd _ => 5
  | .ldaIndx _ | .staIndx _ | .staIndy _ | .andIndx _ | .oraIndx _ | .eorIndx _
  | .incZpx _ | .incAbs _ | .decZpx _ | .decAbs _ | .adcIndx _ | .sbcIndx _
  | .cmpIndx _ | .aslZpx _ | .aslAbs _ | .lsrZpx _ | .lsrAbs _ | .rolZpx _
  | .rolAbs _ | .rorZpx _ | .rorAbs _ | .jsrAbs _ | .rts | .rti => 6
  | .incAbsx _ | .decAbsx _ | .aslAbsx _ | .lsrAbsx _ | .rolAbsx _ | .rorAbsx _
  | .brk => 7

/-- Column `added`, in the state after the opcode fetch. -/
def addedCycles (i : Instr) (s : State) : Nat :=
  match i with
  | .ldaAbsx base | .ldyAbsx base | .andAbsx base | .oraAbsx base | .eorAbsx base | .adcAbsx base
  | .sbcAbsx base | .cmpAbsx base =>
    crosses base.toNat ((base.toNat + s.x.toNat) % 65536)
  | .ldaAbsy base | .ldxAbsy base | .andAbsy base | .oraAbsy base | .eorAbsy base | .adcAbsy base
  | .sbcAbsy base | .cmpAbsy base =>
    crosses base.toNat ((base.toNat + s.y.toNat) % 65536)
  | .ldaIndy zp | .andIndy zp | .oraIndy zp | .eorIndy zp | .adcIndy zp | .sbcIndy zp
  | .cmpIndy zp =>
    crosses (pointerAt s zp.toNat) ((pointerAt s zp.toNat + s.y.toNat) % 65536)
  | .bcc disp => branchCycles (!s.p.c) disp s
  | .bcs disp => branchCycles s.p.c disp s
  | .beq disp => branchCycles s.p.z disp s
  | .bmi disp => branchCycles s.p.n disp s
  | .bne disp => branchCycles (!s.p.z) disp s
  | .bpl disp => branchCycles (!s.p.n) disp s
  | .bvc disp => branchCycles (!s.p.v) disp s
  | .bvs disp => branchCycles s.p.v disp s
  | .ldaIm _ | .ldaZp _ | .ldaZpx _ | .ldaAbs _ | .ldaIndx _ | .ldxIm _
  | .ldxZp _ | .ldxZpy _ | .ldxAbs _ | .ldyIm _ | .ldyZp _ | .ldyZpx _
  | .ldyAbs _ | .staZp _ | .staZpx _ | .staAbs _ | .staAbsx _ | .staAbsy _
  | .staIndx _ | .staIndy _ | .stxZp _ | .stxZpy _ | .stxAbs _ | .styZp _
  | .styZpx _ | .styAbs _ | .tax | .tay | .txa | .tya
  | .tsx | .txs | .pha | .php | .pla | .plp
  | .andIm _ | .andZp _ | .andZpx _ | .andAbs _ | .andIndx _ | .oraIm _
  | .oraZp _ | .oraZpx _ | .oraAbs _ | .oraIndx _ | .eorIm _ | .eorZp _
  | .eorZpx _ | .eorAbs _ | .eorIndx _ | .bitZp _ | .bitAbs _ | .inx
  | .iny | .dex | .dey | .incZp _ | .incZpx _ | .incAbs _
  | .incAbsx _ | .decZp _ | .decZpx _ | .decAbs _ | .decAbsx _ | .adcIm _
  | .adcZp _ | .adcZpx _ | .adcAbs _ | .adcIndx _ | .sbcIm _ | .sbcZp _
  | .sbcZpx _ | .sbcAbs _ | .sbcIndx _ | .cmpIm _ | .cmpZp _ | .cmpZpx _
  | .cmpAbs _ | .cmpIndx _ | .cpxIm _ | .cpxZp _ | .cpxAbs _ | .cpyIm _
  | .cpyZp _ | .cpyAbs _ | .aslAcc | .aslZp _ | .aslZpx _ | .aslAbs _
  | .aslAbsx _ | .lsrAcc | .lsrZp _ | .lsrZpx _ | .lsrAbs _ | .lsrAbsx _
  | .rolAcc | .rolZp _ | .rolZpx _ | .rolAbs _ | .rolAbsx _ | .rorAcc
  | .rorZp _ | .rorZpx _ | .rorAbs _ | .rorAbsx _ | .jmpAbs _ | .jmpInd _
  | .jsrAbs _ | .rts | .clc | .cld | .cli | .clv
  | .sec | .sed | .sei | .nop | .brk | .rti => 0

/-- The cost of an instruction in a state after its opcode fetch (rules R382 and R383). -/
def cost (i : Instr) (s : State) : Nat :=
  (match s.cfg.cycleTable with
    | .doc => docCycles i
    | .nmos => nmosCycles i) + addedCycles i s

/-! ### Shapes of rules -/

/-- A shift's rule (47_shifts.md) for its ACC form and its memory forms: the result and the carry out as
functions of the operand and the old carry. -/
def ShiftRule (acc : Instr) (form : MemOperand → Option Instr) (result : Nat → Nat → Nat)
    (carry : Nat → Bool) : Prop :=
  (∀ s : State,
    let r := BitVec.ofNat 8 (result s.a.toNat s.p.c.toNat)
    exec acc s = .next
      { s with a := r, p := nz { s.p with c := carry s.a.toNat } r, cyc := s.cyc - 1 }) ∧
  (∀ (m : MemOperand) (i : Instr) (s : State), form m = some i →
    let ea := (effectiveAddress .always m s).1
    let v := (s.mem.read ea).toNat
    let r := BitVec.ofNat 8 (result v s.p.c.toNat)
    exec i s = .next
      { s with
        mem := s.mem.write ea r
        p := nz { s.p with c := carry v } r
        pc := pcPast s (modeBytes m)
        cyc := s.cyc - (modeCycles .always m s + 3 : Nat) })

/-- A branch's rule (R283): PC and the cycles, and nothing else. -/
def BranchRule (branch : Byte → Instr) (cond : State → Bool) : Prop :=
  ∀ (disp : Byte) (s : State),
    exec (branch disp) s = .next
      { s with
        pc := if cond s then BitVec.ofNat 16 (branchTarget disp s) else pcPast s 1
        cyc := s.cyc - (1 + branchCycles (cond s) disp s : Nat) }

/-- The mnemonics that set PC themselves: jumps, calls, returns, branches and the trap (R26). -/
def transfers : List Mnemonic :=
  [.jmp, .jsr, .rts, .brk, .rti, .bcc, .bcs, .beq, .bmi, .bne, .bpl, .bvc, .bvs]

/-- SP after an instruction (rule R25). -/
def spAfter (i : Instr) (s : State) : Nat :=
  match i.mnemonic with
  | .txs => s.x.toNat
  | .pha | .php => (s.sp.toNat + 255) % 256
  | .jsr => (s.sp.toNat + 254) % 256
  | .brk => (s.sp.toNat + 253) % 256
  | .pla | .plp => (s.sp.toNat + 1) % 256
  | .rts => (s.sp.toNat + 2) % 256
  | .rti => (s.sp.toNat + 3) % 256
  | _ => s.sp.toNat

end Sys2Proof.Spec

open Sys2Proof.Spec

/-! ### Encoding and decoding -/

/-- Decoding the encoding of any instruction, whatever bytes follow, gives it back and leaves those bytes
(rules R70, R76, R77, R81; the opcode bytes are PRESUMED by the spec, log entry 7). -/
def Obligations.EncodedInstructionDecodesBack : Prop :=
  ∀ (i : Instr) (rest : List Byte), decode (encode i ++ rest) = .ok (i, rest)

/-- What decodes is exactly the encoding of the instruction it decodes to: no byte is ignored and each
opcode byte has one meaning (rules R75, R80). -/
def Obligations.DecodedBytesEncodeBack : Prop :=
  ∀ (bytes rest : List Byte) (i : Instr), decode bytes = .ok (i, rest) → encode i ++ rest = bytes

/-- A string of bytes is one instruction exactly when its first byte is not among the 105 of rule R79 and
its length is that of the opcode's mode (R70, R71). Which bytes those 105 are is PRESUMED by the spec
itself (log entry 7) and that they are no instruction is its D6 (log entry 11); the length that
`wellFormedBytes` reads off an opcode byte is DEDUCED (log entry 7). -/
def Obligations.ExactlyWellFormedBytesDecode : Prop :=
  ∀ bytes : List Byte, wellFormedBytes bytes = true ↔ ∃ i : Instr, decode bytes = .ok (i, [])

/-- The eight opcode bytes that the source states (rule R78). -/
def Obligations.SourceCheckedOpcodesDecode : Prop :=
  ∀ b1 b2 : Byte,
    decodeOpcode 0xA9 b1 b2 = some (.ldaIm b1) ∧ decodeOpcode 0x69 b1 b2 = some (.adcIm b1) ∧
    decodeOpcode 0xE9 b1 b2 = some (.sbcIm b1) ∧ decodeOpcode 0x20 b1 b2 = some (.jsrAbs (b2 ++ b1)) ∧
    decodeOpcode 0x60 b1 b2 = some .rts ∧ decodeOpcode 0x00 b1 b2 = some .brk ∧
    decodeOpcode 0xF0 b1 b2 = some (.beq b1) ∧ decodeOpcode 0xB1 b1 b2 = some (.ldaIndy b1)

/-! ### Steps and their outcomes -/

/-- A step of a ready core whose bytes at PC decode to an instruction runs that instruction in the state
after its opcode fetch: PC one on, one cycle charged (rules R72, R74). That the operand bytes are decoded
together with the opcode, from the three bytes at PC, is the model's, DEDUCED from R63 and R65 (log entry
4): rule R74 lets the instruction's rule fetch its own operands. -/
def Obligations.StepRunsTheDecodedInstruction : Prop :=
  ∀ (s : State) (i : Instr) (rest : List Byte), s.runState = .ready →
    decode [s.mem.read s.pc, s.mem.read (s.pc + 1), s.mem.read (s.pc + 2)] = .ok (i, rest) →
    step s = exec i { s with pc := s.pc + 1, cyc := s.cyc - 1 }

/-- A step has exactly the three outcomes of rule R340: DecodeError on the bytes of rule R79, a next state
that is still ready on every other byte, and a refusal when the core is not ready (the spec's D6, D7 and
D21, log entries 11 and 17). -/
def Obligations.StepOutcomesAreExactlyThree : Prop :=
  ∀ s : State,
    (s.runState = .ready → s.mem.read s.pc ∈ undefinedOpcodes →
      step s = .fault (.decodeError (s.mem.read s.pc) s.pc)) ∧
    (s.runState = .ready → s.mem.read s.pc ∉ undefinedOpcodes →
      ∃ t, step s = .next t ∧ t.runState = .ready) ∧
    (s.runState ≠ .ready → step s = .refused .notReady)

/-- Every instruction runs to a next state from every state and leaves the run state as it is: nothing but
an undefined opcode byte faults (rules R340, R343). That no instruction changes the parameters is the
model's choice (log entry 3, DESIGN CHOICE: they stand in the state, which rule R6 does not say). -/
def Obligations.EveryInstructionAnswersANextState : Prop :=
  ∀ (i : Instr) (s : State), ∃ t, exec i s = .next t ∧ t.runState = s.runState ∧ t.cfg = s.cfg

/-! ### Reset and what holds of every state -/

/-- Reset from any state sets PC to its argument, SP to 0xFF, A, X, Y, every flag and every memory cell to
0, clears the notice and makes the core ready (rules R61, R370, R371). The notice as a latch that reset
clears is the spec's D8 (log entry 12), reset from every run state to ready its D7, D21 and D23 (log
entries 11 and 17); the value of `cyc` between calls is the model's own (log entry 2), and so is that the
parameters stay (log entry 3). -/
def Obligations.ResetClearsEverything : Prop :=
  ∀ (s : State) (entry : Word),
    let t := s.hostReset entry
    t.pc = entry ∧ t.sp = 0xFF ∧ t.a = 0 ∧ t.x = 0 ∧ t.y = 0 ∧
    t.p = ⟨false, false, false, false, false, false, false, false⟩ ∧ t.p.pack = 0 ∧
    (∀ addr : Word, t.mem.read addr = 0) ∧ t.decNotice = false ∧ t.runState = .ready ∧
    t.cyc = State.idleCyc ∧ t.cfg = s.cfg

/-- The state after reset is sound: memory in canonical form (the model's own form, log entry 16) and U
clear (R35), at every entry. -/
def Obligations.ResetStateIsSound : Prop :=
  State.reset.Sound ∧ ∀ (s : State) (entry : Word), (s.hostReset entry).Sound

/-- Every step from a sound state leads to a sound state: U stays 0 (R35) and memory keeps its canonical
form (the model's own, log entry 16). -/
def Obligations.StepKeepsSoundness : Prop :=
  ∀ s t : State, s.Sound → step s = .next t → t.Sound

/-- Whatever resets, loads, writes and `execute` calls the host makes, a sound core stays sound: U is 0 at
all times (R35, R380) and memory keeps its canonical form (the model's own form, log entry 16). That no
host write sets U is the spec's D12 (log entry 18). -/
def Obligations.HostMovesKeepSoundness : Prop :=
  ∀ (moves : List HostMove) (s : State), s.Sound → (s.afterMoves moves).Sound

/-! ### Who writes what: the whole-machine rules of 10_state.md -/

/-- Only the instructions that rules R21, R22 and R23 list write A, X and Y. -/
def Obligations.OnlyListedInstructionsWriteAXY : Prop :=
  ∀ (i : Instr) (s : State), ∃ t, exec i s = .next t ∧
    (i.mnemonic ∉ [.lda, .txa, .tya, .pla, .and, .ora, .eor, .adc, .sbc] →
      i ∉ [.aslAcc, .lsrAcc, .rolAcc, .rorAcc] → t.a = s.a) ∧
    (i.mnemonic ∉ [.ldx, .tax, .tsx, .inx, .dex] → t.x = s.x) ∧
    (i.mnemonic ∉ [.ldy, .tay, .iny, .dey] → t.y = s.y)

/-- SP after every instruction: copied by TXS, moved by one, two or three by the stack instructions,
modulo 256, and kept by every other (rule R25). -/
def Obligations.StackPointerMovesByRule : Prop :=
  ∀ (i : Instr) (s : State), ∃ t, exec i s = .next t ∧ t.sp.toNat = spAfter i s

/-- Only the instructions that rules R28 to R31 list write C, Z, N and V. -/
def Obligations.OnlyListedInstructionsWriteCZNV : Prop :=
  ∀ (i : Instr) (s : State), ∃ t, exec i s = .next t ∧
    (i.mnemonic ∉ [.adc, .sbc, .cmp, .cpx, .cpy, .asl, .lsr, .rol, .ror, .clc, .sec, .plp, .rti] →
      t.p.c = s.p.c) ∧
    (i.mnemonic ∉ [.lda, .ldx, .ldy, .tax, .tay, .txa, .tya, .tsx, .pla, .and, .ora, .eor, .inx, .iny,
        .dex, .dey, .inc, .dec, .adc, .sbc, .asl, .lsr, .rol, .ror, .cmp, .cpx, .cpy, .bit, .plp, .rti] →
      t.p.z = s.p.z ∧ t.p.n = s.p.n) ∧
    (i.mnemonic ∉ [.adc, .sbc, .bit, .clv, .plp, .rti] → t.p.v = s.p.v)

/-- Who writes I, D, B and U, and what (rules R32 to R35): SEI, CLI, SED, CLD and BRK as named; PLP and
RTI set I and D from the popped byte and clear B and U; nothing else writes any of the four. The stored B
and U are the spec's D18 (log entry 15). -/
def Obligations.OnlyListedInstructionsWriteIDBU : Prop :=
  ∀ (i : Instr) (s : State), ∃ t, exec i s = .next t ∧
    (i.mnemonic ∉ [.sei, .cli, .brk, .plp, .rti] → t.p.i = s.p.i) ∧
    (i.mnemonic ∉ [.sed, .cld, .plp, .rti] → t.p.d = s.p.d) ∧
    (i.mnemonic ∉ [.brk, .plp, .rti] → t.p.b = s.p.b) ∧
    (i.mnemonic ∉ [.plp, .rti] → t.p.u = s.p.u) ∧
    (i.mnemonic ∈ [.sei, .brk] → t.p.i = true) ∧ (i.mnemonic = .cli → t.p.i = false) ∧
    (i.mnemonic = .sed → t.p.d = true) ∧ (i.mnemonic = .cld → t.p.d = false) ∧
    (i.mnemonic = .brk → t.p.b = true) ∧
    (i.mnemonic ∈ [.plp, .rti] → t.p.b = false ∧ t.p.u = false ∧
      t.p.i = (s.mem.read (s.stackAddr 1)).getLsbD 2 ∧ t.p.d = (s.mem.read (s.stackAddr 1)).getLsbD 3)

/-- Only stores, read-modify-writes on memory and pushes change memory: every other instruction, and the
ACC form of a shift, leaves every byte as it was. -/
def Obligations.OnlyStoringInstructionsChangeMemory : Prop :=
  ∀ (i : Instr) (s : State), ∃ t, exec i s = .next t ∧
    ((i.mnemonic ∉ [.sta, .stx, .sty, .inc, .dec, .asl, .lsr, .rol, .ror, .pha, .php, .jsr, .brk] ∨
        i.mode = .acc) →
      t.mem = s.mem ∧ ∀ addr : Word, t.mem.read addr = s.mem.read addr)

/-- A store or a read-modify-write changes no byte but the one at its effective address, which is the
resolver's in the state the instruction starts in (rules R52, R58, R117). -/
def Obligations.StoresChangeOnlyTheirCell : Prop :=
  ∀ form ∈ storeForms, ∀ (m : MemOperand) (i : Instr) (s : State), form m = some i →
    ∃ t, exec i s = .next t ∧
      ∀ addr : Word, addr ≠ (effectiveAddress .always m s).1 → t.mem.read addr = s.mem.read addr

/-- The pushes store exactly what the rules say at the stack addresses, PHA and PHP one byte, JSR two, BRK
three, and change no other byte of memory (rules R181, R183, R191, R192, R281, R318). The stack addresses
stay in page one by the spec's D1 (log entry 9). -/
def Obligations.PushesChangeOnlyTheirStackCells : Prop :=
  (∀ s : State, ∃ t, exec .pha s = .next t ∧ t.mem.read (s.stackAddr 0) = s.a ∧
    ∀ addr : Word, addr ≠ s.stackAddr 0 → t.mem.read addr = s.mem.read addr) ∧
  (∀ s : State, ∃ t, exec .php s = .next t ∧ t.mem.read (s.stackAddr 0) = s.p.pack ||| 0x30 ∧
    ∀ addr : Word, addr ≠ s.stackAddr 0 → t.mem.read addr = s.mem.read addr) ∧
  (∀ (target : Word) (s : State), ∃ t, exec (.jsrAbs target) s = .next t ∧
    (t.mem.read (s.stackAddr 0)).toNat = (s.pc.toNat + 1) % 65536 / 256 ∧
    (t.mem.read (s.stackAddr (-1))).toNat = (s.pc.toNat + 1) % 256 ∧
    ∀ addr : Word, addr ≠ s.stackAddr 0 → addr ≠ s.stackAddr (-1) → t.mem.read addr = s.mem.read addr) ∧
  (∀ s : State, ∃ t, exec .brk s = .next t ∧
    (t.mem.read (s.stackAddr 0)).toNat = (s.pc.toNat + 1) % 65536 / 256 ∧
    (t.mem.read (s.stackAddr (-1))).toNat = (s.pc.toNat + 1) % 256 ∧
    t.mem.read (s.stackAddr (-2)) = s.p.pack ||| 0x30 ∧
    ∀ addr : Word, addr ≠ s.stackAddr 0 → addr ≠ s.stackAddr (-1) → addr ≠ s.stackAddr (-2) →
      t.mem.read addr = s.mem.read addr)

/-- After a step that runs an instruction other than a jump, call, return, branch or trap, PC is the
address of the byte after the instruction's last operand byte (rules R26, R70). -/
def Obligations.ProgramCounterPassesTheInstruction : Prop :=
  ∀ (s : State) (i : Instr), s.runState = .ready → s.instrAtPc = some i → i.mnemonic ∉ transfers →
    ∃ t, step s = .next t ∧ t.pc = pcPast s (encode i).length

/-- The decimal notice after every instruction: raised by ADC and SBC with D = 1, and never lowered
(rules R39, R134, R342; the spec's D8, log entry 12). -/
def Obligations.DecimalNoticeIsRaisedByAdcAndSbcOnly : Prop :=
  ∀ (i : Instr) (s : State), ∃ t, exec i s = .next t ∧
    t.decNotice = (s.decNotice || (decide (i.mnemonic ∈ [.adc, .sbc]) && s.p.d))

/-- D changes no result of ADC and SBC: with any other value of D the next state is the same but for D and
the notice (rule R134; the spec's D8, log entry 12). -/
def Obligations.DecimalFlagChangesNoResult : Prop :=
  ∀ (i : Instr) (s : State) (d : Bool), i.mnemonic ∈ [.adc, .sbc] →
    ∃ t, exec i s = .next t ∧
      exec i { s with p := { s.p with d := d } } =
        .next { t with p := { t.p with d := d }, decNotice := s.decNotice || d }

/-! ### The ALU and the status byte -/

/-- `adc` is addition of whole numbers: the result and C are the 9-bit sum's, and V says that the signed
sum does not fit 8 bits, which is the same-sign form of the rule too (rules R131, R132, R133). -/
def Obligations.AdcIsIntegerAddition : Prop :=
  ∀ (a m : Byte) (cin : Bool),
    let r := adc a m cin
    let sum := a.toNat + m.toNat + cin.toNat
    let signed := a.toInt + m.toInt + (cin.toNat : Int)
    r.result.toNat + 256 * r.carry.toNat = sum ∧
    (r.overflow = true ↔ signed < -128 ∨ 127 < signed) ∧
    (r.overflow = true ↔ a.msb = m.msb ∧ r.result.msb ≠ a.msb)

/-- `sbc` is subtraction of whole numbers with borrow: C = 1 means no borrow, and V says that the signed
difference does not fit 8 bits (rules R131, R135). -/
def Obligations.SbcIsIntegerSubtraction : Prop :=
  ∀ (a m : Byte) (cin : Bool),
    let r := sbc a m cin
    let signed := a.toInt - m.toInt - (1 - (cin.toNat : Int))
    (r.result.toNat : Int) = ((a.toNat : Int) - m.toNat - (1 - (cin.toNat : Int))) % 256 ∧
    (r.carry = true ↔ m.toNat + (1 - cin.toNat) ≤ a.toNat) ∧
    (r.overflow = true ↔ signed < -128 ∨ 127 < signed)

/-- The packed status byte by the weights of its bits, that packing and unpacking undo each other, and the
forcing of B and U in the pushed and the pulled byte (rule R36). -/
def Obligations.StatusBytePacksAndUnpacks : Prop :=
  (∀ p : Status, p.pack.toNat = 128 * p.n.toNat + 64 * p.v.toNat + 32 * p.u.toNat + 16 * p.b.toNat +
      8 * p.d.toNat + 4 * p.i.toNat + 2 * p.z.toNat + p.c.toNat) ∧
  (∀ p : Status, Status.unpack p.pack = p) ∧ (∀ b : Byte, (Status.unpack b).pack = b) ∧
  (∀ p : Status, p.pushed = p.pack ||| 0x30) ∧ (∀ b : Byte, Status.pulled b = Status.unpack (b &&& 0xCF)) ∧
  (∀ p : Status, Status.pulled p.pushed = { p with b := false, u := false })

/-! ### Addressing modes -/

/-- The zero-page modes: the address is the operand byte, plus X or Y modulo 256, so it stays in page
zero; PC passes one byte; one cycle, two with an index; nothing else changes (rules R105, R106, R107). -/
def Obligations.ZeroPageModesStayInPageZero : Prop :=
  ∀ (variant : Variant) (b : Byte) (s : State), ∀ m ∈ [MemOperand.zp b, .zpx b, .zpy b],
    let r := effectiveAddress variant m s
    r.1.toNat = address m s ∧ address m s < 256 ∧
    r.2 = { s with pc := pcPast s 1, cyc := s.cyc - (modeCycles variant m s : Nat) }

/-- The absolute modes: the address is the operand word, plus X or Y modulo 65,536; PC passes two bytes;
two cycles, and one more for an index that crosses a page or in the always-penalty form; nothing else
changes (rules R108, R109, R110). -/
def Obligations.AbsoluteModesAddModulo65536 : Prop :=
  ∀ (variant : Variant) (w : Word) (s : State), ∀ m ∈ [MemOperand.abs w, .absx w, .absy w],
    let r := effectiveAddress variant m s
    r.1.toNat = address m s ∧
    r.2 = { s with pc := pcPast s 2, cyc := s.cyc - (modeCycles variant m s : Nat) }

/-- The pointer modes: the address is the word in page zero at the operand byte plus X modulo 256, or the
word in page zero at the operand byte plus Y modulo 65,536; PC passes one byte; four cycles, or three and
the page-cross or always cycle (rules R111, R112, R113, R120; a pointer at 0xFF wraps in page zero by the
spec's D2, log entry 10). -/
def Obligations.PointerModesReadPageZero : Prop :=
  ∀ (variant : Variant) (b : Byte) (s : State), ∀ m ∈ [MemOperand.indx b, .indy b],
    let r := effectiveAddress variant m s
    r.1.toNat = address m s ∧ (zpReadWord b s).1.toNat = pointerAt s b.toNat ∧
    r.2 = { s with pc := pcPast s 1, cyc := s.cyc - (modeCycles variant m s : Nat) }

/-! ### Results and completion, instruction by instruction -/

/-- LDA, LDX and LDY in every form: the operand goes to the register, Z and N follow it, and only PC and
the cycles change beside (rules R160, R161, R162). -/
def Obligations.LoadsWriteTheirRegister : Prop :=
  ∀ (o : ReadOperand) (i : Instr) (s : State),
    let v := (readOperand o s).1
    let t : State := { s with
      p := nz s.p v, pc := pcPast s (operandBytes o), cyc := s.cyc - (operandCycles o s : Nat) }
    (ldaForm o = some i → exec i s = .next { t with a := v }) ∧
    (ldxForm o = some i → exec i s = .next { t with x := v }) ∧
    (ldyForm o = some i → exec i s = .next { t with y := v })

/-- The value of an operand: the immediate byte, or the byte at the effective address of the mode's read
form; memory and every register but PC stay (rules R104, R116). In the INDX and INDY forms a pointer at
0xFF has its high byte at 0x0000 by the spec's D2 (log entry 10). -/
def Obligations.OperandIsImmediateOrByteAtAddress : Prop :=
  (∀ (v : Byte) (s : State), readOperand (.im v) s = (v, { s with pc := pcPast s 1, cyc := s.cyc - 1 })) ∧
  (∀ (m : MemOperand) (s : State),
    readOperand (.mem m) s =
      (s.mem.read (BitVec.ofNat 16 (address m s)),
        { s with pc := pcPast s (modeBytes m), cyc := s.cyc - (modeCycles .read m s + 1 : Nat) }))

/-- STA, STX and STY in every form: the register is stored at the effective address, in the
always-penalty form, and only PC and the cycles change beside; no flag changes (rules R163, R164, R165). -/
def Obligations.StoresWriteTheRegister : Prop :=
  ∀ (m : MemOperand) (i : Instr) (s : State),
    let ea := (effectiveAddress .always m s).1
    let t : State := { s with
      pc := pcPast s (modeBytes m), cyc := s.cyc - (modeCycles .always m s + 1 : Nat) }
    (staForm m = some i → exec i s = .next { t with mem := s.mem.write ea s.a }) ∧
    (stxForm m = some i → exec i s = .next { t with mem := s.mem.write ea s.x }) ∧
    (styForm m = some i → exec i s = .next { t with mem := s.mem.write ea s.y })

/-- The six transfers: the source is copied, Z and N follow it except in TXS, one cycle more is charged,
and nothing else changes (rules R185 to R190). -/
def Obligations.TransfersCopyARegister : Prop :=
  ∀ s : State,
    exec .tax s = .next { s with x := s.a, p := nz s.p s.a, cyc := s.cyc - 1 } ∧
    exec .tay s = .next { s with y := s.a, p := nz s.p s.a, cyc := s.cyc - 1 } ∧
    exec .txa s = .next { s with a := s.x, p := nz s.p s.x, cyc := s.cyc - 1 } ∧
    exec .tya s = .next { s with a := s.y, p := nz s.p s.y, cyc := s.cyc - 1 } ∧
    exec .tsx s = .next { s with x := s.sp, p := nz s.p s.sp, cyc := s.cyc - 1 } ∧
    exec .txs s = .next { s with sp := s.x, cyc := s.cyc - 1 }

/-- PHA and PHP write the byte at the stack address and lower SP, modulo 256; no flag changes (rules R181,
R191, R192; page one by the spec's D1, log entry 9; the nmos cycle, log entry 8). -/
def Obligations.PushesWriteAndLowerTheStack : Prop :=
  ∀ s : State,
    let t : State := { s with
      sp := BitVec.ofNat 8 (s.sp.toNat + 255), cyc := s.cyc - (1 + nmosOne s : Nat) }
    exec .pha s = .next { t with mem := s.mem.write (s.stackAddr 0) s.a } ∧
    exec .php s = .next { t with mem := s.mem.write (s.stackAddr 0) (s.p.pack ||| 0x30) }

/-- PLA and PLP raise SP, modulo 256, and take the byte there: PLA into A with Z and N following, PLP into
the flags with B and U cleared; memory stays (rules R182, R193, R194; page one by the spec's D1, log
entry 9; the nmos cycle, log entry 8). -/
def Obligations.PullsReadAndRaiseTheStack : Prop :=
  ∀ s : State,
    let v := s.mem.read (BitVec.ofNat 16 (256 + (s.sp.toNat + 1) % 256))
    let t : State := { s with
      sp := BitVec.ofNat 8 (s.sp.toNat + 1), cyc := s.cyc - (2 + nmosOne s : Nat) }
    exec .pla s = .next { t with a := v, p := nz s.p v } ∧
    exec .plp s = .next { t with p := {
      n := v.getLsbD 7, v := v.getLsbD 6, u := false, b := false,
      d := v.getLsbD 3, i := v.getLsbD 2, z := v.getLsbD 1, c := v.getLsbD 0 } }

/-- AND, ORA and EOR in every form: A becomes A op operand, Z and N follow it, and only PC and the cycles
change beside (rules R200, R201, R202). -/
def Obligations.LogicCombinesIntoA : Prop :=
  ∀ (o : ReadOperand) (i : Instr) (s : State),
    let v := (readOperand o s).1
    let t : Byte → State := fun r => { s with
      a := r, p := nz s.p r, pc := pcPast s (operandBytes o), cyc := s.cyc - (operandCycles o s : Nat) }
    (andForm o = some i → exec i s = .next (t (s.a &&& v))) ∧
    (oraForm o = some i → exec i s = .next (t (s.a ||| v))) ∧
    (eorForm o = some i → exec i s = .next (t (s.a ^^^ v)))

/-- BIT in both forms: Z from A AND operand, N and V from bits 7 and 6 of the operand itself; A, C and the
rest stay (rule R203). -/
def Obligations.BitTestsWithoutChangingA : Prop :=
  ∀ (o : ReadOperand) (i : Instr) (s : State), bitForm o = some i →
    let v := (readOperand o s).1
    exec i s = .next { s with
      p := { s.p with z := decide (s.a &&& v = 0), n := v.getLsbD 7, v := v.getLsbD 6 }
      pc := pcPast s (operandBytes o), cyc := s.cyc - (operandCycles o s : Nat) }

/-- INX, INY, DEX and DEY: the register plus or minus one modulo 256, Z and N following it, one cycle more,
and nothing else: C and V stay (rules R220 to R223). -/
def Obligations.IndexRegistersCountModulo256 : Prop :=
  ∀ s : State,
    let up : Byte → Byte := fun v => BitVec.ofNat 8 (v.toNat + 1)
    let down : Byte → Byte := fun v => BitVec.ofNat 8 (v.toNat + 255)
    exec .inx s = .next { s with x := up s.x, p := nz s.p (up s.x), cyc := s.cyc - 1 } ∧
    exec .iny s = .next { s with y := up s.y, p := nz s.p (up s.y), cyc := s.cyc - 1 } ∧
    exec .dex s = .next { s with x := down s.x, p := nz s.p (down s.x), cyc := s.cyc - 1 } ∧
    exec .dey s = .next { s with y := down s.y, p := nz s.p (down s.y), cyc := s.cyc - 1 }

/-- INC and DEC in every form: the byte at the effective address plus or minus one modulo 256, Z and N
following it, and only PC and the cycles beside (rules R224, R225; the modify cycle is the spec's D5, log
entry 14). -/
def Obligations.IncAndDecCountACell : Prop :=
  ∀ (m : MemOperand) (i : Instr) (s : State),
    let ea := (effectiveAddress .always m s).1
    let t : Byte → State := fun r => { s with
      mem := s.mem.write ea r, p := nz s.p r
      pc := pcPast s (modeBytes m), cyc := s.cyc - (modeCycles .always m s + 3 : Nat) }
    (incForm m = some i → exec i s = .next (t (BitVec.ofNat 8 ((s.mem.read ea).toNat + 1)))) ∧
    (decForm m = some i → exec i s = .next (t (BitVec.ofNat 8 ((s.mem.read ea).toNat + 255))))

/-- ADC in every form, with the sum and its flags as numbers, and the notice when D = 1 (rules R132, R240;
the notice as a latch is the spec's D8, log entry 12). -/
def Obligations.AdcAddsWithCarry : Prop :=
  ∀ (o : ReadOperand) (i : Instr) (s : State), adcForm o = some i →
    let v := (readOperand o s).1
    let sum := s.a.toNat + v.toNat + s.p.c.toNat
    let r := BitVec.ofNat 8 (sum % 256)
    exec i s = .next { s with
      a := r
      p := nz { s.p with
        c := decide (255 < sum), v := decide ((s.a ^^^ r) &&& (v ^^^ r) &&& 0x80 ≠ 0) } r
      decNotice := s.decNotice || s.p.d
      pc := pcPast s (operandBytes o), cyc := s.cyc - (operandCycles o s : Nat) }

/-- SBC in every form: ADC of the complemented operand, with the notice when D = 1 (rules R132, R241; the
notice as a latch is the spec's D8, log entry 12). -/
def Obligations.SbcSubtractsWithBorrow : Prop :=
  ∀ (o : ReadOperand) (i : Instr) (s : State), sbcForm o = some i →
    let v := (readOperand o s).1
    let sum := s.a.toNat + (255 - v.toNat) + s.p.c.toNat
    let r := BitVec.ofNat 8 (sum % 256)
    exec i s = .next { s with
      a := r
      p := nz { s.p with
        c := decide (255 < sum), v := decide ((s.a ^^^ r) &&& (~~~v ^^^ r) &&& 0x80 ≠ 0) } r
      decNotice := s.decNotice || s.p.d
      pc := pcPast s (operandBytes o), cyc := s.cyc - (operandCycles o s : Nat) }

/-- CMP, CPX and CPY in every form: C is the unsigned order, Z equality, N bit 7 of the difference; no
register but PC changes, V and D stay (rules R242, R243, R244). -/
def Obligations.ComparesSetOrderFlags : Prop :=
  ∀ (o : ReadOperand) (i : Instr) (s : State),
    let v := (readOperand o s).1
    let t : Byte → State := fun reg => { s with
      p := { s.p with
        c := decide (v.toNat ≤ reg.toNat), z := decide (reg = v)
        n := decide (128 ≤ (reg.toNat + 256 - v.toNat) % 256) }
      pc := pcPast s (operandBytes o), cyc := s.cyc - (operandCycles o s : Nat) }
    (cmpForm o = some i → exec i s = .next (t s.a)) ∧
    (cpxForm o = some i → exec i s = .next (t s.x)) ∧
    (cpyForm o = some i → exec i s = .next (t s.y))

/-- ASL, LSR, ROL and ROR on A and in every memory form: the result, C, Z and N as numbers, one cycle more
for A, the modify cycle and the write for memory, and nothing else beside (rules R260 to R263). -/
def Obligations.ShiftsAndRotatesByRule : Prop :=
  ShiftRule .aslAcc aslForm (fun v _ => 2 * v % 256) (fun v => decide (128 ≤ v)) ∧
  ShiftRule .lsrAcc lsrForm (fun v _ => v / 2) (fun v => decide (v % 2 = 1)) ∧
  ShiftRule .rolAcc rolForm (fun v c => (2 * v + c) % 256) (fun v => decide (128 ≤ v)) ∧
  ShiftRule .rorAcc rorForm (fun v c => v / 2 + 128 * c) (fun v => decide (v % 2 = 1))

/-- JMP in both forms: PC becomes the operand, or the word at the pointer, whose high byte lies at the
pointer plus 1 or, with JMP_IND_PAGE_WRAP, at the start of the pointer's page when its low byte is 0xFF
(rules R114, R280; the parameter is the spec's D3, log entry 3). -/
def Obligations.JumpsSetTheProgramCounter : Prop :=
  (∀ (target : Word) (s : State),
    exec (.jmpAbs target) s = .next { s with pc := target, cyc := s.cyc - 2 }) ∧
  (∀ (ptr : Word) (s : State),
    let next := if s.cfg.jmpIndPageWrap = true ∧ ptr.toNat % 256 = 255 then ptr.toNat - 255
      else (ptr.toNat + 1) % 65536
    exec (.jmpInd ptr) s = .next { s with
      pc := BitVec.ofNat 16
        ((s.mem.read ptr).toNat + 256 * (s.mem.read (BitVec.ofNat 16 next)).toNat)
      cyc := s.cyc - 4 })

/-- JSR pushes the address of its own last byte, high byte first, lowers SP by two and jumps (rules R183,
R281; page one by the spec's D1, log entry 9). -/
def Obligations.JsrPushesItsLastByteAddress : Prop :=
  ∀ (target : Word) (s : State),
    let last := (s.pc.toNat + 1) % 65536
    exec (.jsrAbs target) s = .next { s with
      mem := (s.mem.write (BitVec.ofNat 16 (256 + s.sp.toNat)) (BitVec.ofNat 8 (last / 256))).write
        (BitVec.ofNat 16 (256 + (s.sp.toNat + 255) % 256)) (BitVec.ofNat 8 (last % 256))
      sp := BitVec.ofNat 8 (s.sp.toNat + 254), pc := target, cyc := s.cyc - 5 }

/-- RTS pops a word, low byte first, raises SP by two and goes on one past it (rules R184, R282; page one
by the spec's D1, log entry 9; the nmos cycle, log entry 8). -/
def Obligations.RtsReturnsOnePastThePoppedWord : Prop :=
  ∀ s : State,
    let lo := s.mem.read (BitVec.ofNat 16 (256 + (s.sp.toNat + 1) % 256))
    let hi := s.mem.read (BitVec.ofNat 16 (256 + (s.sp.toNat + 2) % 256))
    exec .rts s = .next { s with
      sp := BitVec.ofNat 8 (s.sp.toNat + 2)
      pc := BitVec.ofNat 16 ((lo.toNat + 256 * hi.toNat + 1) % 65536)
      cyc := s.cyc - (4 + nmosOne s : Nat) }

/-- The eight branches: PC and the cycles by rule R283, each on its own flag, and nothing else (rules R283
to R291). -/
def Obligations.BranchesFollowTheirFlag : Prop :=
  BranchRule .bcc (fun s => !s.p.c) ∧ BranchRule .bcs (fun s => s.p.c) ∧
  BranchRule .beq (fun s => s.p.z) ∧ BranchRule .bne (fun s => !s.p.z) ∧
  BranchRule .bmi (fun s => s.p.n) ∧ BranchRule .bpl (fun s => !s.p.n) ∧
  BranchRule .bvc (fun s => !s.p.v) ∧ BranchRule .bvs (fun s => s.p.v)

/-- The seven flag operations write their one flag, NOP writes nothing; each charges one cycle more and
changes nothing else (rules R310 to R317). -/
def Obligations.FlagOperationsWriteOneFlag : Prop :=
  ∀ s : State,
    let t : Status → State := fun p => { s with p := p, cyc := s.cyc - 1 }
    exec .clc s = .next (t { s.p with c := false }) ∧ exec .cld s = .next (t { s.p with d := false }) ∧
    exec .cli s = .next (t { s.p with i := false }) ∧ exec .clv s = .next (t { s.p with v := false }) ∧
    exec .sec s = .next (t { s.p with c := true }) ∧ exec .sed s = .next (t { s.p with d := true }) ∧
    exec .sei s = .next (t { s.p with i := true }) ∧ exec .nop s = .next (t s.p)

/-- BRK enters the trap from every state: it pushes the address two past its opcode and the status with B
and U set, lowers SP by three, sets I and B, and loads PC from the vector at 0xFFFE (rules R318, R344; page
one by the spec's D1, log entry 9; the skipped byte by its D14, log entry 14; the nmos cycle, log entry
8). -/
def Obligations.BrkEntersTheTrap : Prop :=
  ∀ s : State,
    let back := (s.pc.toNat + 1) % 65536
    let cell : Nat → Word := fun k => BitVec.ofNat 16 (256 + (s.sp.toNat + 256 - k) % 256)
    exec .brk s = .next { s with
      mem := ((s.mem.write (cell 0) (BitVec.ofNat 8 (back / 256))).write (cell 1)
        (BitVec.ofNat 8 (back % 256))).write (cell 2) (s.p.pack ||| 0x30)
      sp := BitVec.ofNat 8 (s.sp.toNat + 253)
      p := { s.p with i := true, b := true }
      pc := BitVec.ofNat 16 ((s.mem.read 0xFFFE).toNat + 256 * (s.mem.read 0xFFFF).toNat)
      cyc := s.cyc - (5 + nmosOne s : Nat) }

/-- RTI pops the status, B and U becoming 0, then PC as it is, and raises SP by three (rules R319, R346;
page one by the spec's D1, log entry 9; the nmos cycles, log entry 8). -/
def Obligations.RtiReturnsFromTheTrap : Prop :=
  ∀ s : State,
    let at' : Nat → Byte := fun k => s.mem.read (BitVec.ofNat 16 (256 + (s.sp.toNat + k) % 256))
    exec .rti s = .next { s with
      sp := BitVec.ofNat 8 (s.sp.toNat + 3)
      p := {
        n := (at' 1).getLsbD 7, v := (at' 1).getLsbD 6, u := false, b := false,
        d := (at' 1).getLsbD 3, i := (at' 1).getLsbD 2, z := (at' 1).getLsbD 1, c := (at' 1).getLsbD 0 }
      pc := BitVec.ofNat 16 ((at' 2).toNat + 256 * (at' 3).toNat)
      cyc := s.cyc - (3 + 2 * nmosOne s : Nat) }

/-! ### Round trips of the stack -/

/-- PushWord is two pushes, PopWord two pops, and popping what was pushed gives the word and SP back, at
every SP (rules R183, R184; the spec's D1, log entry 9). -/
def Obligations.PopWordUndoesPushWord : Prop :=
  ∀ (s : State) (v : Word),
    s.pushWord v = (s.push (hiByte v)).push (loByte v) ∧
    s.popWord = (leWord s.pop.1 s.pop.2.pop.1, s.pop.2.pop.2) ∧
    (s.pushWord v).popWord.1 = v ∧ (s.pushWord v).popWord.2.sp = s.sp

/-- RTS after a subroutine that left SP and the two pushed bytes as JSR left them resumes at the byte after
the JSR (rules R281, R282). -/
def Obligations.RtsResumesAfterJsr : Prop :=
  ∀ (target : Word) (s t u : State), exec (.jsrAbs target) s = .next t → u.sp = t.sp →
    u.mem.read (s.stackAddr 0) = t.mem.read (s.stackAddr 0) →
    u.mem.read (s.stackAddr (-1)) = t.mem.read (s.stackAddr (-1)) →
    ∃ w, exec .rts u = .next w ∧ w.pc = pcPast s 2 ∧ w.sp = s.sp

/-- RTI after a handler that left SP and the three pushed bytes as BRK left them resumes at BRK's address
plus 2 with the flags BRK saw, B and U cleared, and I as it was before (rules R345, R346). -/
def Obligations.RtiResumesAfterBrk : Prop :=
  ∀ s t u : State, exec .brk s = .next t → u.sp = t.sp →
    u.mem.read (s.stackAddr 0) = t.mem.read (s.stackAddr 0) →
    u.mem.read (s.stackAddr (-1)) = t.mem.read (s.stackAddr (-1)) →
    u.mem.read (s.stackAddr (-2)) = t.mem.read (s.stackAddr (-2)) →
    ∃ w, exec .rti u = .next w ∧ w.pc = pcPast s 1 ∧ w.sp = s.sp ∧
      w.p = { s.p with b := false, u := false }

/-- PLA after PHA gives A back with Z and N from it, and PLP after PHP gives the flags back with B and U
cleared, whatever ran between as long as SP and the pushed byte are as they were left (95_test_vectors.md,
round-trip laws; rules R191 to R194). -/
def Obligations.PullUndoesPush : Prop :=
  (∀ s t u : State, exec .pha s = .next t → u.sp = t.sp →
    u.mem.read (s.stackAddr 0) = t.mem.read (s.stackAddr 0) →
    ∃ w, exec .pla u = .next w ∧ w.a = s.a ∧ w.p = nz u.p s.a ∧ w.sp = s.sp) ∧
  (∀ s t u : State, exec .php s = .next t → u.sp = t.sp →
    u.mem.read (s.stackAddr 0) = t.mem.read (s.stackAddr 0) →
    ∃ w, exec .plp u = .next w ∧ w.p = { s.p with b := false, u := false } ∧ w.sp = s.sp)

/-! ### Cycles and parameters -/

/-- The cost of every step is the table's of rule R383: the accesses and charges of the rules add up to
its columns, under both cycle tables, and lie between 2 and 7 (rules R381, R382, R383). The nmos column is
PRESUMED by the spec (log entry 8), the costs of INC, DEC and BRK are its D5 and D14 (log entry 14), and
where INDY crosses a page with a pointer at 0xFF its D2 (log entry 10). -/
def Obligations.CycleCostsFollowTheTable : Prop :=
  ∀ (s : State) (i : Instr), s.runState = .ready → s.instrAtPc = some i →
    ∃ t, step s = .next t ∧ t.cyc = s.cyc - cost i (s.fetched 1) ∧
      2 ≤ cost i (s.fetched 1) ∧ cost i (s.fetched 1) ≤ 7

/-- No instruction reads the cycle counter: from another counter value every instruction gives the same
state with the counter moved by the same amount (rules R38, R387). -/
def Obligations.CycleCounterIsNotObservable : Prop :=
  ∀ (i : Instr) (s : State) (c : Int), ∃ t, exec i s = .next t ∧
    exec i { s with cyc := c } = .next { t with cyc := t.cyc + (c - s.cyc) }

/-- The parameters act only where rule R6 says: CYCLE_TABLE on the cycle counter alone, and
JMP_IND_PAGE_WRAP on nothing but a JMP (ind) whose pointer ends in 0xFF. -/
def Obligations.ParametersActOnlyWhereNamed : Prop :=
  (∀ (i : Instr) (s : State) (table : CycleTable), ∃ (t : State) (k : Int), exec i s = .next t ∧
    exec i { s with cfg := { s.cfg with cycleTable := table } } =
      .next { t with cfg := { s.cfg with cycleTable := table }, cyc := k }) ∧
  (∀ (i : Instr) (s : State) (wrap : Bool), (∀ ptr : Word, i = .jmpInd ptr → ptr.toNat % 256 ≠ 255) →
    ∃ t, exec i s = .next t ∧
      exec i { s with cfg := { s.cfg with jmpIndPageWrap := wrap } } =
        .next { t with cfg := { s.cfg with jmpIndPageWrap := wrap } })

/-! ### The execute loop and the host -/

/-- `execute` is the loop of rule R374: from a ready core it takes steps while the counter, begun at the
budget, is positive; it ends when the counter is spent and returns the cycles consumed, or at the first
undefined opcode byte and returns the DecodeError, the core being left as rule R341 says (rules R374 to
R379; the spec's D7 and D13, log entries 11 and 19; the counter between calls, log entry 2). -/
def Obligations.ExecuteIsTheBudgetedLoop : Prop :=
  ∀ (s : State) (budget : Int), s.runState = .ready →
    ∃ (k : Nat) (t : State),
      Sys2Proof.core.run k ({ s with cyc := budget } : State) = .next t ∧
      (∀ j < k, ∃ u : State, Sys2Proof.core.run j ({ s with cyc := budget } : State) = .next u ∧ 0 < u.cyc) ∧
      ((t.cyc ≤ 0 ∧ s.execute budget = (.ok (budget - t.cyc), { t with cyc := State.idleCyc })) ∨
        (0 < t.cyc ∧ ∃ (opcode : Byte) (addr : Word), step t = .fault (.decodeError opcode addr) ∧
          s.execute budget = (.decodeError opcode addr,
            { t with
              pc := pcPast t 1, runState := .faulted opcode addr, cyc := State.idleCyc })))

/-- A successful `execute` with a positive budget consumes at least the budget and at most 6 cycles more
(rules R376, R377). -/
def Obligations.ExecuteOvershootsByAtMostSix : Prop :=
  ∀ (s t : State) (budget consumed : Int), 0 < budget → s.execute budget = (.ok consumed, t) →
    budget ≤ consumed ∧ consumed ≤ budget + 6

/-- `execute` is refused and changes nothing unless the core is ready (rules R372, R341; the spec's D7 and
D21, log entries 11 and 17); with a budget of 0 or less it runs nothing and returns 0 (rule R375; the
spec's D13, log entry 19). The value that `cyc` has after the call is the model's own (log entry 2, DESIGN
CHOICE). -/
def Obligations.ExecuteRefusesOrRunsNothing : Prop :=
  (∀ (s : State) (budget : Int), s.runState ≠ .ready → s.execute budget = (.refused, s)) ∧
  (∀ (s : State) (budget : Int), s.runState = .ready → budget ≤ 0 →
    s.execute budget = (.ok 0, { s with cyc := State.idleCyc }))

/-- The loader puts byte k of the program at the load address plus k modulo 65,536, leaves every cell no
byte goes to and every register, and returns the load address (rule R373; the wrap is the spec's D22, log
entry 20). Of a program longer than the address space a cell keeps the last byte that goes to it. An image
without its two address bytes loads nothing, which is the model's choice (log entry 20, DESIGN CHOICE). All
of it holds in every run state: that a load may come in each of them is DEDUCED (log entry 18, unsafe for a
core that is not ready). -/
def Obligations.LoaderPlacesTheImage : Prop :=
  (∀ (s : State) (lo hi : Byte) (program : List Byte),
    ∃ t, s.load (lo :: hi :: program) = some (hi ++ lo, t) ∧ t = { s with mem := t.mem } ∧
      (∀ (k : Nat) (h : k < program.length), program.length ≤ k + 65536 →
        t.mem.read ((hi ++ lo : Word) + BitVec.ofNat 16 k) = program[k]) ∧
      (∀ addr : Word, program.length ≤ (addr - (hi ++ lo : Word)).toNat →
        t.mem.read addr = s.mem.read addr)) ∧
  (∀ (s : State) (image : List Byte), image.length < 2 → s.load image = none)

/-- A host write is refused unless the core is ready, and changes the one field it names (rule R380; the
spec's D12, log entry 18); no host write changes U. -/
def Obligations.HostWritesOneField : Prop :=
  (∀ (s : State) (w : HostWrite), s.runState ≠ .ready → s.hostWrite w = .refused .notReady) ∧
  (∀ (s : State) (w : HostWrite), s.runState = .ready → ∃ t, s.hostWrite w = .next t ∧ t.p.u = s.p.u) ∧
  (∀ s : State, s.runState = .ready →
    (∀ v, s.hostWrite (.a v) = .next { s with a := v }) ∧
    (∀ v, s.hostWrite (.x v) = .next { s with x := v }) ∧
    (∀ v, s.hostWrite (.y v) = .next { s with y := v }) ∧
    (∀ v, s.hostWrite (.sp v) = .next { s with sp := v }) ∧
    (∀ v, s.hostWrite (.pc v) = .next { s with pc := v }) ∧
    (∀ v, s.hostWrite (.flag .n v) = .next { s with p := { s.p with n := v } }) ∧
    (∀ v, s.hostWrite (.flag .v v) = .next { s with p := { s.p with v := v } }) ∧
    (∀ v, s.hostWrite (.flag .b v) = .next { s with p := { s.p with b := v } }) ∧
    (∀ v, s.hostWrite (.flag .d v) = .next { s with p := { s.p with d := v } }) ∧
    (∀ v, s.hostWrite (.flag .i v) = .next { s with p := { s.p with i := v } }) ∧
    (∀ v, s.hostWrite (.flag .z v) = .next { s with p := { s.p with z := v } }) ∧
    (∀ v, s.hostWrite (.flag .c v) = .next { s with p := { s.p with c := v } }) ∧
    (∀ addr v, ∃ m : Memory, s.hostWrite (.cell addr v) = .next { s with mem := m } ∧ m.read addr = v ∧
      ∀ b : Word, b ≠ addr → m.read b = s.mem.read b))
end

