-- ==== Sys2Proof/Laws/Bits.lean ====
section
/-! SUPPORT. The bit helpers as numbers, and words taken apart and put together. -/

namespace Sys2Proof

@[simp] theorem zext16_toNat (v : Byte) : (zext16 v).toNat = v.toNat := by
  have := v.isLt
  simp only [zext16, BitVec.toNat_setWidth]
  omega

@[simp] theorem leWord_toNat (lo hi : Byte) : (leWord lo hi).toNat = lo.toNat + 256 * hi.toNat := by
  have h : (leWord lo hi).toNat = hi.toNat <<< 8 ||| lo.toNat := BitVec.toNat_append hi lo
  rw [h, ← Nat.shiftLeft_add_eq_or_of_lt lo.isLt]
  simp only [Nat.shiftLeft_eq]
  omega

@[simp] theorem loByte_toNat (v : Word) : (loByte v).toNat = v.toNat % 256 := by
  simp [loByte]

@[simp] theorem hiByte_toNat (v : Word) : (hiByte v).toNat = v.toNat / 256 := by
  have := v.isLt
  simp only [hiByte, BitVec.extractLsb'_toNat, Nat.shiftRight_eq_div_pow]
  omega

/-- A word is its low and its high byte. -/
@[simp] theorem leWord_bytes (v : Word) : leWord (loByte v) (hiByte v) = v := by
  apply BitVec.eq_of_toNat_eq
  simp only [leWord_toNat, loByte_toNat, hiByte_toNat]
  omega

@[simp] theorem loByte_leWord (lo hi : Byte) : loByte (leWord lo hi) = lo := by
  apply BitVec.eq_of_toNat_eq
  have := lo.isLt
  simp only [leWord_toNat, loByte_toNat]
  omega

@[simp] theorem hiByte_leWord (lo hi : Byte) : hiByte (leWord lo hi) = hi := by
  apply BitVec.eq_of_toNat_eq
  have := lo.isLt
  simp only [leWord_toNat, hiByte_toNat]
  omega

/-- The page test compares the page numbers (R101). -/
theorem pageCross_eq (base ea : Word) : pageCross base ea = decide (ea.toNat / 256 ≠ base.toNat / 256) := by
  have h : (ea >>> 8 = base >>> 8) ↔ ea.toNat / 256 = base.toNat / 256 := by
    rw [← BitVec.toNat_inj]
    simp [Nat.shiftRight_eq_div_pow]
  by_cases hp : ea.toNat / 256 = base.toNat / 256
  · simp [pageCross, h.mpr hp, hp]
  · have : ¬ ea >>> 8 = base >>> 8 := fun he => hp (h.mp he)
    simp [pageCross, this, hp]

end Sys2Proof
end

