-- ==== Sys2Proof/Laws/Exec.lean ====
section
/-! SUPPORT. `exec` on each constructor, as the shared operation it is: the lemmas proofs about all
instructions rewrite with after a case split. -/

namespace Sys2Proof.Machine

@[simp] theorem exec_ldaIm (imm : Byte) (s : State) :
    exec (.ldaIm imm) s = .next (loadA (.im imm) s) := rfl

@[simp] theorem exec_ldaZp (zp : Byte) (s : State) :
    exec (.ldaZp zp) s = .next (loadA (.mem (.zp zp)) s) := rfl

@[simp] theorem exec_ldaZpx (zp : Byte) (s : State) :
    exec (.ldaZpx zp) s = .next (loadA (.mem (.zpx zp)) s) := rfl

@[simp] theorem exec_ldaAbs (addr : Word) (s : State) :
    exec (.ldaAbs addr) s = .next (loadA (.mem (.abs addr)) s) := rfl

@[simp] theorem exec_ldaAbsx (base : Word) (s : State) :
    exec (.ldaAbsx base) s = .next (loadA (.mem (.absx base)) s) := rfl

@[simp] theorem exec_ldaAbsy (base : Word) (s : State) :
    exec (.ldaAbsy base) s = .next (loadA (.mem (.absy base)) s) := rfl

@[simp] theorem exec_ldaIndx (zp : Byte) (s : State) :
    exec (.ldaIndx zp) s = .next (loadA (.mem (.indx zp)) s) := rfl

@[simp] theorem exec_ldaIndy (zp : Byte) (s : State) :
    exec (.ldaIndy zp) s = .next (loadA (.mem (.indy zp)) s) := rfl

@[simp] theorem exec_ldxIm (imm : Byte) (s : State) :
    exec (.ldxIm imm) s = .next (loadX (.im imm) s) := rfl

@[simp] theorem exec_ldxZp (zp : Byte) (s : State) :
    exec (.ldxZp zp) s = .next (loadX (.mem (.zp zp)) s) := rfl

@[simp] theorem exec_ldxZpy (zp : Byte) (s : State) :
    exec (.ldxZpy zp) s = .next (loadX (.mem (.zpy zp)) s) := rfl

@[simp] theorem exec_ldxAbs (addr : Word) (s : State) :
    exec (.ldxAbs addr) s = .next (loadX (.mem (.abs addr)) s) := rfl

@[simp] theorem exec_ldxAbsy (base : Word) (s : State) :
    exec (.ldxAbsy base) s = .next (loadX (.mem (.absy base)) s) := rfl

@[simp] theorem exec_ldyIm (imm : Byte) (s : State) :
    exec (.ldyIm imm) s = .next (loadY (.im imm) s) := rfl

@[simp] theorem exec_ldyZp (zp : Byte) (s : State) :
    exec (.ldyZp zp) s = .next (loadY (.mem (.zp zp)) s) := rfl

@[simp] theorem exec_ldyZpx (zp : Byte) (s : State) :
    exec (.ldyZpx zp) s = .next (loadY (.mem (.zpx zp)) s) := rfl

@[simp] theorem exec_ldyAbs (addr : Word) (s : State) :
    exec (.ldyAbs addr) s = .next (loadY (.mem (.abs addr)) s) := rfl

@[simp] theorem exec_ldyAbsx (base : Word) (s : State) :
    exec (.ldyAbsx base) s = .next (loadY (.mem (.absx base)) s) := rfl

@[simp] theorem exec_staZp (zp : Byte) (s : State) :
    exec (.staZp zp) s = .next (storeByte s.a (.zp zp) s) := rfl

@[simp] theorem exec_staZpx (zp : Byte) (s : State) :
    exec (.staZpx zp) s = .next (storeByte s.a (.zpx zp) s) := rfl

@[simp] theorem exec_staAbs (addr : Word) (s : State) :
    exec (.staAbs addr) s = .next (storeByte s.a (.abs addr) s) := rfl

@[simp] theorem exec_staAbsx (base : Word) (s : State) :
    exec (.staAbsx base) s = .next (storeByte s.a (.absx base) s) := rfl

@[simp] theorem exec_staAbsy (base : Word) (s : State) :
    exec (.staAbsy base) s = .next (storeByte s.a (.absy base) s) := rfl

@[simp] theorem exec_staIndx (zp : Byte) (s : State) :
    exec (.staIndx zp) s = .next (storeByte s.a (.indx zp) s) := rfl

@[simp] theorem exec_staIndy (zp : Byte) (s : State) :
    exec (.staIndy zp) s = .next (storeByte s.a (.indy zp) s) := rfl

@[simp] theorem exec_stxZp (zp : Byte) (s : State) :
    exec (.stxZp zp) s = .next (storeByte s.x (.zp zp) s) := rfl

@[simp] theorem exec_stxZpy (zp : Byte) (s : State) :
    exec (.stxZpy zp) s = .next (storeByte s.x (.zpy zp) s) := rfl

@[simp] theorem exec_stxAbs (addr : Word) (s : State) :
    exec (.stxAbs addr) s = .next (storeByte s.x (.abs addr) s) := rfl

@[simp] theorem exec_styZp (zp : Byte) (s : State) :
    exec (.styZp zp) s = .next (storeByte s.y (.zp zp) s) := rfl

@[simp] theorem exec_styZpx (zp : Byte) (s : State) :
    exec (.styZpx zp) s = .next (storeByte s.y (.zpx zp) s) := rfl

@[simp] theorem exec_styAbs (addr : Word) (s : State) :
    exec (.styAbs addr) s = .next (storeByte s.y (.abs addr) s) := rfl

@[simp] theorem exec_tax (s : State) :
    exec (.tax) s = .next ({ s.charge 1 with x := s.a, p := s.p.setNZ s.a } : State) := rfl

@[simp] theorem exec_tay (s : State) :
    exec (.tay) s = .next ({ s.charge 1 with y := s.a, p := s.p.setNZ s.a } : State) := rfl

@[simp] theorem exec_txa (s : State) :
    exec (.txa) s = .next ({ s.charge 1 with a := s.x, p := s.p.setNZ s.x } : State) := rfl

@[simp] theorem exec_tya (s : State) :
    exec (.tya) s = .next ({ s.charge 1 with a := s.y, p := s.p.setNZ s.y } : State) := rfl

@[simp] theorem exec_tsx (s : State) :
    exec (.tsx) s = .next ({ s.charge 1 with x := s.sp, p := s.p.setNZ s.sp } : State) := rfl

@[simp] theorem exec_txs (s : State) :
    exec (.txs) s = .next ({ s.charge 1 with sp := s.x } : State) := rfl

@[simp] theorem exec_pha (s : State) :
    exec (.pha) s = .next ((s.push s.a).chargeNmos 1) := rfl

@[simp] theorem exec_php (s : State) :
    exec (.php) s = .next ((s.push s.p.pushed).chargeNmos 1) := rfl

@[simp] theorem exec_pla (s : State) :
    exec (.pla) s = .next ((pullA s).chargeNmos 1) := rfl

@[simp] theorem exec_plp (s : State) :
    exec (.plp) s = .next ((pullStatus s).chargeNmos 1) := rfl

@[simp] theorem exec_andIm (imm : Byte) (s : State) :
    exec (.andIm imm) s = .next (logicA (· &&& ·) (.im imm) s) := rfl

@[simp] theorem exec_andZp (zp : Byte) (s : State) :
    exec (.andZp zp) s = .next (logicA (· &&& ·) (.mem (.zp zp)) s) := rfl

@[simp] theorem exec_andZpx (zp : Byte) (s : State) :
    exec (.andZpx zp) s = .next (logicA (· &&& ·) (.mem (.zpx zp)) s) := rfl

@[simp] theorem exec_andAbs (addr : Word) (s : State) :
    exec (.andAbs addr) s = .next (logicA (· &&& ·) (.mem (.abs addr)) s) := rfl

@[simp] theorem exec_andAbsx (base : Word) (s : State) :
    exec (.andAbsx base) s = .next (logicA (· &&& ·) (.mem (.absx base)) s) := rfl

@[simp] theorem exec_andAbsy (base : Word) (s : State) :
    exec (.andAbsy base) s = .next (logicA (· &&& ·) (.mem (.absy base)) s) := rfl

@[simp] theorem exec_andIndx (zp : Byte) (s : State) :
    exec (.andIndx zp) s = .next (logicA (· &&& ·) (.mem (.indx zp)) s) := rfl

@[simp] theorem exec_andIndy (zp : Byte) (s : State) :
    exec (.andIndy zp) s = .next (logicA (· &&& ·) (.mem (.indy zp)) s) := rfl

@[simp] theorem exec_oraIm (imm : Byte) (s : State) :
    exec (.oraIm imm) s = .next (logicA (· ||| ·) (.im imm) s) := rfl

@[simp] theorem exec_oraZp (zp : Byte) (s : State) :
    exec (.oraZp zp) s = .next (logicA (· ||| ·) (.mem (.zp zp)) s) := rfl

@[simp] theorem exec_oraZpx (zp : Byte) (s : State) :
    exec (.oraZpx zp) s = .next (logicA (· ||| ·) (.mem (.zpx zp)) s) := rfl

@[simp] theorem exec_oraAbs (addr : Word) (s : State) :
    exec (.oraAbs addr) s = .next (logicA (· ||| ·) (.mem (.abs addr)) s) := rfl

@[simp] theorem exec_oraAbsx (base : Word) (s : State) :
    exec (.oraAbsx base) s = .next (logicA (· ||| ·) (.mem (.absx base)) s) := rfl

@[simp] theorem exec_oraAbsy (base : Word) (s : State) :
    exec (.oraAbsy base) s = .next (logicA (· ||| ·) (.mem (.absy base)) s) := rfl

@[simp] theorem exec_oraIndx (zp : Byte) (s : State) :
    exec (.oraIndx zp) s = .next (logicA (· ||| ·) (.mem (.indx zp)) s) := rfl

@[simp] theorem exec_oraIndy (zp : Byte) (s : State) :
    exec (.oraIndy zp) s = .next (logicA (· ||| ·) (.mem (.indy zp)) s) := rfl

@[simp] theorem exec_eorIm (imm : Byte) (s : State) :
    exec (.eorIm imm) s = .next (logicA (· ^^^ ·) (.im imm) s) := rfl

@[simp] theorem exec_eorZp (zp : Byte) (s : State) :
    exec (.eorZp zp) s = .next (logicA (· ^^^ ·) (.mem (.zp zp)) s) := rfl

@[simp] theorem exec_eorZpx (zp : Byte) (s : State) :
    exec (.eorZpx zp) s = .next (logicA (· ^^^ ·) (.mem (.zpx zp)) s) := rfl

@[simp] theorem exec_eorAbs (addr : Word) (s : State) :
    exec (.eorAbs addr) s = .next (logicA (· ^^^ ·) (.mem (.abs addr)) s) := rfl

@[simp] theorem exec_eorAbsx (base : Word) (s : State) :
    exec (.eorAbsx base) s = .next (logicA (· ^^^ ·) (.mem (.absx base)) s) := rfl

@[simp] theorem exec_eorAbsy (base : Word) (s : State) :
    exec (.eorAbsy base) s = .next (logicA (· ^^^ ·) (.mem (.absy base)) s) := rfl

@[simp] theorem exec_eorIndx (zp : Byte) (s : State) :
    exec (.eorIndx zp) s = .next (logicA (· ^^^ ·) (.mem (.indx zp)) s) := rfl

@[simp] theorem exec_eorIndy (zp : Byte) (s : State) :
    exec (.eorIndy zp) s = .next (logicA (· ^^^ ·) (.mem (.indy zp)) s) := rfl

@[simp] theorem exec_bitZp (zp : Byte) (s : State) :
    exec (.bitZp zp) s = .next (testBits (.mem (.zp zp)) s) := rfl

@[simp] theorem exec_bitAbs (addr : Word) (s : State) :
    exec (.bitAbs addr) s = .next (testBits (.mem (.abs addr)) s) := rfl

@[simp] theorem exec_inx (s : State) :
    exec (.inx) s = .next ({ s.charge 1 with x := s.x + 1, p := s.p.setNZ (s.x + 1) } : State) := rfl

@[simp] theorem exec_iny (s : State) :
    exec (.iny) s = .next ({ s.charge 1 with y := s.y + 1, p := s.p.setNZ (s.y + 1) } : State) := rfl

@[simp] theorem exec_dex (s : State) :
    exec (.dex) s = .next ({ s.charge 1 with x := s.x - 1, p := s.p.setNZ (s.x - 1) } : State) := rfl

@[simp] theorem exec_dey (s : State) :
    exec (.dey) s = .next ({ s.charge 1 with y := s.y - 1, p := s.p.setNZ (s.y - 1) } : State) := rfl

@[simp] theorem exec_incZp (zp : Byte) (s : State) :
    exec (.incZp zp) s = .next (modifyMem inc (.zp zp) s) := rfl

@[simp] theorem exec_incZpx (zp : Byte) (s : State) :
    exec (.incZpx zp) s = .next (modifyMem inc (.zpx zp) s) := rfl

@[simp] theorem exec_incAbs (addr : Word) (s : State) :
    exec (.incAbs addr) s = .next (modifyMem inc (.abs addr) s) := rfl

@[simp] theorem exec_incAbsx (base : Word) (s : State) :
    exec (.incAbsx base) s = .next (modifyMem inc (.absx base) s) := rfl

@[simp] theorem exec_decZp (zp : Byte) (s : State) :
    exec (.decZp zp) s = .next (modifyMem dec (.zp zp) s) := rfl

@[simp] theorem exec_decZpx (zp : Byte) (s : State) :
    exec (.decZpx zp) s = .next (modifyMem dec (.zpx zp) s) := rfl

@[simp] theorem exec_decAbs (addr : Word) (s : State) :
    exec (.decAbs addr) s = .next (modifyMem dec (.abs addr) s) := rfl

@[simp] theorem exec_decAbsx (base : Word) (s : State) :
    exec (.decAbsx base) s = .next (modifyMem dec (.absx base) s) := rfl

@[simp] theorem exec_adcIm (imm : Byte) (s : State) :
    exec (.adcIm imm) s = .next (addA (.im imm) s) := rfl

@[simp] theorem exec_adcZp (zp : Byte) (s : State) :
    exec (.adcZp zp) s = .next (addA (.mem (.zp zp)) s) := rfl

@[simp] theorem exec_adcZpx (zp : Byte) (s : State) :
    exec (.adcZpx zp) s = .next (addA (.mem (.zpx zp)) s) := rfl

@[simp] theorem exec_adcAbs (addr : Word) (s : State) :
    exec (.adcAbs addr) s = .next (addA (.mem (.abs addr)) s) := rfl

@[simp] theorem exec_adcAbsx (base : Word) (s : State) :
    exec (.adcAbsx base) s = .next (addA (.mem (.absx base)) s) := rfl

@[simp] theorem exec_adcAbsy (base : Word) (s : State) :
    exec (.adcAbsy base) s = .next (addA (.mem (.absy base)) s) := rfl

@[simp] theorem exec_adcIndx (zp : Byte) (s : State) :
    exec (.adcIndx zp) s = .next (addA (.mem (.indx zp)) s) := rfl

@[simp] theorem exec_adcIndy (zp : Byte) (s : State) :
    exec (.adcIndy zp) s = .next (addA (.mem (.indy zp)) s) := rfl

@[simp] theorem exec_sbcIm (imm : Byte) (s : State) :
    exec (.sbcIm imm) s = .next (subtractA (.im imm) s) := rfl

@[simp] theorem exec_sbcZp (zp : Byte) (s : State) :
    exec (.sbcZp zp) s = .next (subtractA (.mem (.zp zp)) s) := rfl

@[simp] theorem exec_sbcZpx (zp : Byte) (s : State) :
    exec (.sbcZpx zp) s = .next (subtractA (.mem (.zpx zp)) s) := rfl

@[simp] theorem exec_sbcAbs (addr : Word) (s : State) :
    exec (.sbcAbs addr) s = .next (subtractA (.mem (.abs addr)) s) := rfl

@[simp] theorem exec_sbcAbsx (base : Word) (s : State) :
    exec (.sbcAbsx base) s = .next (subtractA (.mem (.absx base)) s) := rfl

@[simp] theorem exec_sbcAbsy (base : Word) (s : State) :
    exec (.sbcAbsy base) s = .next (subtractA (.mem (.absy base)) s) := rfl

@[simp] theorem exec_sbcIndx (zp : Byte) (s : State) :
    exec (.sbcIndx zp) s = .next (subtractA (.mem (.indx zp)) s) := rfl

@[simp] theorem exec_sbcIndy (zp : Byte) (s : State) :
    exec (.sbcIndy zp) s = .next (subtractA (.mem (.indy zp)) s) := rfl

@[simp] theorem exec_cmpIm (imm : Byte) (s : State) :
    exec (.cmpIm imm) s = .next (compareWith s.a (.im imm) s) := rfl

@[simp] theorem exec_cmpZp (zp : Byte) (s : State) :
    exec (.cmpZp zp) s = .next (compareWith s.a (.mem (.zp zp)) s) := rfl

@[simp] theorem exec_cmpZpx (zp : Byte) (s : State) :
    exec (.cmpZpx zp) s = .next (compareWith s.a (.mem (.zpx zp)) s) := rfl

@[simp] theorem exec_cmpAbs (addr : Word) (s : State) :
    exec (.cmpAbs addr) s = .next (compareWith s.a (.mem (.abs addr)) s) := rfl

@[simp] theorem exec_cmpAbsx (base : Word) (s : State) :
    exec (.cmpAbsx base) s = .next (compareWith s.a (.mem (.absx base)) s) := rfl

@[simp] theorem exec_cmpAbsy (base : Word) (s : State) :
    exec (.cmpAbsy base) s = .next (compareWith s.a (.mem (.absy base)) s) := rfl

@[simp] theorem exec_cmpIndx (zp : Byte) (s : State) :
    exec (.cmpIndx zp) s = .next (compareWith s.a (.mem (.indx zp)) s) := rfl

@[simp] theorem exec_cmpIndy (zp : Byte) (s : State) :
    exec (.cmpIndy zp) s = .next (compareWith s.a (.mem (.indy zp)) s) := rfl

@[simp] theorem exec_cpxIm (imm : Byte) (s : State) :
    exec (.cpxIm imm) s = .next (compareWith s.x (.im imm) s) := rfl

@[simp] theorem exec_cpxZp (zp : Byte) (s : State) :
    exec (.cpxZp zp) s = .next (compareWith s.x (.mem (.zp zp)) s) := rfl

@[simp] theorem exec_cpxAbs (addr : Word) (s : State) :
    exec (.cpxAbs addr) s = .next (compareWith s.x (.mem (.abs addr)) s) := rfl

@[simp] theorem exec_cpyIm (imm : Byte) (s : State) :
    exec (.cpyIm imm) s = .next (compareWith s.y (.im imm) s) := rfl

@[simp] theorem exec_cpyZp (zp : Byte) (s : State) :
    exec (.cpyZp zp) s = .next (compareWith s.y (.mem (.zp zp)) s) := rfl

@[simp] theorem exec_cpyAbs (addr : Word) (s : State) :
    exec (.cpyAbs addr) s = .next (compareWith s.y (.mem (.abs addr)) s) := rfl

@[simp] theorem exec_aslAcc (s : State) :
    exec (.aslAcc) s = .next (modifyA asl s) := rfl

@[simp] theorem exec_aslZp (zp : Byte) (s : State) :
    exec (.aslZp zp) s = .next (modifyMem asl (.zp zp) s) := rfl

@[simp] theorem exec_aslZpx (zp : Byte) (s : State) :
    exec (.aslZpx zp) s = .next (modifyMem asl (.zpx zp) s) := rfl

@[simp] theorem exec_aslAbs (addr : Word) (s : State) :
    exec (.aslAbs addr) s = .next (modifyMem asl (.abs addr) s) := rfl

@[simp] theorem exec_aslAbsx (base : Word) (s : State) :
    exec (.aslAbsx base) s = .next (modifyMem asl (.absx base) s) := rfl

@[simp] theorem exec_lsrAcc (s : State) :
    exec (.lsrAcc) s = .next (modifyA lsr s) := rfl

@[simp] theorem exec_lsrZp (zp : Byte) (s : State) :
    exec (.lsrZp zp) s = .next (modifyMem lsr (.zp zp) s) := rfl

@[simp] theorem exec_lsrZpx (zp : Byte) (s : State) :
    exec (.lsrZpx zp) s = .next (modifyMem lsr (.zpx zp) s) := rfl

@[simp] theorem exec_lsrAbs (addr : Word) (s : State) :
    exec (.lsrAbs addr) s = .next (modifyMem lsr (.abs addr) s) := rfl

@[simp] theorem exec_lsrAbsx (base : Word) (s : State) :
    exec (.lsrAbsx base) s = .next (modifyMem lsr (.absx base) s) := rfl

@[simp] theorem exec_rolAcc (s : State) :
    exec (.rolAcc) s = .next (modifyA rol s) := rfl

@[simp] theorem exec_rolZp (zp : Byte) (s : State) :
    exec (.rolZp zp) s = .next (modifyMem rol (.zp zp) s) := rfl

@[simp] theorem exec_rolZpx (zp : Byte) (s : State) :
    exec (.rolZpx zp) s = .next (modifyMem rol (.zpx zp) s) := rfl

@[simp] theorem exec_rolAbs (addr : Word) (s : State) :
    exec (.rolAbs addr) s = .next (modifyMem rol (.abs addr) s) := rfl

@[simp] theorem exec_rolAbsx (base : Word) (s : State) :
    exec (.rolAbsx base) s = .next (modifyMem rol (.absx base) s) := rfl

@[simp] theorem exec_rorAcc (s : State) :
    exec (.rorAcc) s = .next (modifyA ror s) := rfl

@[simp] theorem exec_rorZp (zp : Byte) (s : State) :
    exec (.rorZp zp) s = .next (modifyMem ror (.zp zp) s) := rfl

@[simp] theorem exec_rorZpx (zp : Byte) (s : State) :
    exec (.rorZpx zp) s = .next (modifyMem ror (.zpx zp) s) := rfl

@[simp] theorem exec_rorAbs (addr : Word) (s : State) :
    exec (.rorAbs addr) s = .next (modifyMem ror (.abs addr) s) := rfl

@[simp] theorem exec_rorAbsx (base : Word) (s : State) :
    exec (.rorAbsx base) s = .next (modifyMem ror (.absx base) s) := rfl

@[simp] theorem exec_jmpAbs (addr : Word) (s : State) :
    exec (.jmpAbs addr) s = .next (jumpTo addr s) := rfl

@[simp] theorem exec_jmpInd (ptr : Word) (s : State) :
    exec (.jmpInd ptr) s = .next (jumpIndirect ptr s) := rfl

@[simp] theorem exec_jsrAbs (addr : Word) (s : State) :
    exec (.jsrAbs addr) s = .next (callSubroutine addr s) := rfl

@[simp] theorem exec_rts (s : State) :
    exec (.rts) s = .next ((returnFromSubroutine s).chargeNmos 1) := rfl

@[simp] theorem exec_bcc (disp : Byte) (s : State) :
    exec (.bcc disp) s = .next (branchIf (!s.p.c) disp s) := rfl

@[simp] theorem exec_bcs (disp : Byte) (s : State) :
    exec (.bcs disp) s = .next (branchIf s.p.c disp s) := rfl

@[simp] theorem exec_beq (disp : Byte) (s : State) :
    exec (.beq disp) s = .next (branchIf s.p.z disp s) := rfl

@[simp] theorem exec_bmi (disp : Byte) (s : State) :
    exec (.bmi disp) s = .next (branchIf s.p.n disp s) := rfl

@[simp] theorem exec_bne (disp : Byte) (s : State) :
    exec (.bne disp) s = .next (branchIf (!s.p.z) disp s) := rfl

@[simp] theorem exec_bpl (disp : Byte) (s : State) :
    exec (.bpl disp) s = .next (branchIf (!s.p.n) disp s) := rfl

@[simp] theorem exec_bvc (disp : Byte) (s : State) :
    exec (.bvc disp) s = .next (branchIf (!s.p.v) disp s) := rfl

@[simp] theorem exec_bvs (disp : Byte) (s : State) :
    exec (.bvs disp) s = .next (branchIf s.p.v disp s) := rfl

@[simp] theorem exec_clc (s : State) :
    exec (.clc) s = .next ({ s.charge 1 with p := { s.p with c := false } } : State) := rfl

@[simp] theorem exec_cld (s : State) :
    exec (.cld) s = .next ({ s.charge 1 with p := { s.p with d := false } } : State) := rfl

@[simp] theorem exec_cli (s : State) :
    exec (.cli) s = .next ({ s.charge 1 with p := { s.p with i := false } } : State) := rfl

@[simp] theorem exec_clv (s : State) :
    exec (.clv) s = .next ({ s.charge 1 with p := { s.p with v := false } } : State) := rfl

@[simp] theorem exec_sec (s : State) :
    exec (.sec) s = .next ({ s.charge 1 with p := { s.p with c := true } } : State) := rfl

@[simp] theorem exec_sed (s : State) :
    exec (.sed) s = .next ({ s.charge 1 with p := { s.p with d := true } } : State) := rfl

@[simp] theorem exec_sei (s : State) :
    exec (.sei) s = .next ({ s.charge 1 with p := { s.p with i := true } } : State) := rfl

@[simp] theorem exec_nop (s : State) :
    exec (.nop) s = .next (s.charge 1) := rfl

@[simp] theorem exec_brk (s : State) :
    exec (.brk) s = .next (s.takeTrap.chargeNmos 1) := rfl

@[simp] theorem exec_rti (s : State) :
    exec (.rti) s = .next (s.returnFromTrap.chargeNmos 2) := rfl

end Sys2Proof.Machine
end

