-- ==== Sys2Proof/Laws/Memory.lean ====
section
/-! SUPPORT. The laws of memory: a read after a write, and that every memory operation keeps the
canonical form. -/

namespace Sys2Proof.Machine

theorem Memory.lookup_erase_same (cells : List Host.Cell) (a : Nat) :
    Memory.lookup (Memory.erase cells a) a = Memory.unlisted := by
  induction cells with
  | nil => rfl
  | cons cell rest ih =>
    obtain ⟨k, v⟩ := cell
    by_cases h : k = a
    · simpa [Memory.erase, h] using ih
    · simpa [Memory.erase, Memory.lookup, h] using ih

theorem Memory.lookup_erase_other (cells : List Host.Cell) {a b : Nat} (hne : b ≠ a) :
    Memory.lookup (Memory.erase cells a) b = Memory.lookup cells b := by
  induction cells with
  | nil => rfl
  | cons cell rest ih =>
    obtain ⟨k, v⟩ := cell
    by_cases h : k = a
    · subst h
      simpa [Memory.erase, Memory.lookup, Ne.symm hne] using ih
    · by_cases hb : k = b
      · simp [Memory.erase, Memory.lookup, hb, hne]
      · simpa [Memory.erase, Memory.lookup, h, hb] using ih

theorem Memory.lookup_insert_other (cells : List Host.Cell) {a b : Nat} (v : Byte) (hne : b ≠ a) :
    Memory.lookup (Memory.insert cells a v) b = Memory.lookup cells b := by
  induction cells with
  | nil => simp [Memory.insert, Memory.lookup, Ne.symm hne]
  | cons cell rest ih =>
    obtain ⟨k, w⟩ := cell
    by_cases h : a < k
    · simp [Memory.insert, Memory.lookup, h, Ne.symm hne]
    · by_cases hb : k = b
      · subst hb
        simp [Memory.insert, Memory.lookup, h]
      · simpa [Memory.insert, Memory.lookup, h, hb] using ih

theorem Memory.lookup_insert_erased (cells : List Host.Cell) (a : Nat) (v : Byte) :
    Memory.lookup (Memory.insert (Memory.erase cells a) a v) a = v := by
  induction cells with
  | nil => simp [Memory.erase, Memory.insert, Memory.lookup]
  | cons cell rest ih =>
    obtain ⟨k, w⟩ := cell
    by_cases h : k = a
    · simpa [Memory.erase, h] using ih
    · by_cases hlt : a < k
      · simp [Memory.erase, Memory.insert, Memory.lookup, h, hlt]
      · simpa [Memory.erase, Memory.insert, Memory.lookup, h, hlt] using ih

/-- The byte a write stores is the byte a read of its address gives (R51, R52). -/
@[simp] theorem Memory.read_write_same (m : Memory) (a : Word) (v : Byte) : (m.write a v).read a = v := by
  by_cases h : v = Memory.unlisted
  · simp [Memory.write, Memory.read, h, Memory.lookup_erase_same]
  · simp [Memory.write, Memory.read, h, Memory.lookup_insert_erased]

/-- A write leaves every other cell alone (R52). -/
theorem Memory.read_write_other (m : Memory) {a b : Word} (v : Byte) (hne : b ≠ a) :
    (m.write a v).read b = m.read b := by
  have hn : b.toNat ≠ a.toNat := fun h => hne (BitVec.eq_of_toNat_eq h)
  by_cases h : v = Memory.unlisted
  · simp [Memory.write, Memory.read, h, Memory.lookup_erase_other _ hn]
  · simp [Memory.write, Memory.read, h, Memory.lookup_insert_other _ _ hn, Memory.lookup_erase_other _ hn]

/-- What every read gives after a write. -/
theorem Memory.read_write (m : Memory) (a b : Word) (v : Byte) :
    (m.write a v).read b = if b = a then v else m.read b := by
  by_cases h : b = a
  · simp [h]
  · simp [h, Memory.read_write_other]

theorem Memory.all_erase (cells : List Host.Cell) (a : Nat) (q : Host.Cell → Bool)
    (h : cells.all q = true) : (Memory.erase cells a).all q = true := by
  rw [List.all_eq_true] at h ⊢
  exact fun cell hc => h cell (List.mem_of_mem_filter hc)

theorem Memory.all_insert (cells : List Host.Cell) (a : Nat) (v : Byte) (q : Host.Cell → Bool)
    (h : cells.all q = true) (hq : q (a, v) = true) : (Memory.insert cells a v).all q = true := by
  induction cells with
  | nil => simp [Memory.insert, hq]
  | cons cell rest ih =>
    obtain ⟨k, w⟩ := cell
    rw [List.all_cons, Bool.and_eq_true] at h
    by_cases hlt : a < k
    · simp [Memory.insert, hlt, hq, h.1, h.2]
    · simp [Memory.insert, hlt, h.1, ih h.2]

theorem Memory.erase_wf (cells : List Host.Cell) (a : Nat) (h : Memory.cellsWf cells = true) :
    Memory.cellsWf (Memory.erase cells a) = true := by
  induction cells with
  | nil => rfl
  | cons cell rest ih =>
    obtain ⟨k, v⟩ := cell
    simp only [Memory.cellsWf, Bool.and_eq_true] at h
    by_cases hk : k = a
    · simpa [Memory.erase, hk] using ih h.2
    · have hrest := Memory.all_erase rest a _ h.1.2
      have hwf := ih h.2
      simp only [Memory.erase] at hrest hwf
      rw [show Memory.erase ((k, v) :: rest) a = (k, v) :: Memory.erase rest a by
        simp [Memory.erase, hk]]
      simp only [Memory.cellsWf, Bool.and_eq_true]
      exact ⟨⟨h.1.1, hrest⟩, hwf⟩

theorem Memory.erase_absent (cells : List Host.Cell) (a : Nat) :
    (Memory.erase cells a).all (fun cell => cell.1 != a) = true := by
  simp [Memory.erase]

theorem Memory.insert_wf (cells : List Host.Cell) (a : Nat) (v : Byte)
    (h : Memory.cellsWf cells = true) (habs : cells.all (fun cell => cell.1 != a) = true)
    (ha : a < 65536) (hv : v ≠ Memory.unlisted) : Memory.cellsWf (Memory.insert cells a v) = true := by
  induction cells with
  | nil => simp [Memory.insert, Memory.cellsWf, ha, hv]
  | cons cell rest ih =>
    obtain ⟨k, w⟩ := cell
    have hwf := h
    simp only [Memory.cellsWf, Bool.and_eq_true, decide_eq_true_eq, bne_iff_ne, List.all_eq_true] at h
    rw [List.all_cons, Bool.and_eq_true] at habs
    have hka : k ≠ a := by simpa using habs.1
    by_cases hlt : a < k
    · have hall : ((k, w) :: rest).all (fun cell => decide (a < cell.1)) = true := by
        simp only [List.all_cons, Bool.and_eq_true, decide_eq_true_eq, List.all_eq_true]
        exact ⟨hlt, fun cell hc => Nat.lt_trans hlt (h.1.2 cell hc)⟩
      simp only [Memory.insert, hlt, if_true]
      rw [Memory.cellsWf]
      simp [ha, hv, hall, hwf]
    · have hgt : k < a := by omega
      have hin := Memory.all_insert rest a v (fun cell => decide (k < cell.1))
        (by simpa [List.all_eq_true] using h.1.2) (by simpa using hgt)
      simp only [Memory.insert, hlt, if_false]
      rw [Memory.cellsWf]
      simp [h.1.1.1, h.1.1.2, hin, ih h.2 habs.2]

/-- A write keeps the canonical form. -/
theorem Memory.write_wf {m : Memory} (a : Word) (v : Byte) (h : m.wf = true) : (m.write a v).wf = true := by
  have he := Memory.erase_wf m.cells a.toNat h
  by_cases hv : v = Memory.unlisted
  · simpa [Memory.wf, Memory.write, hv] using he
  · simpa [Memory.wf, Memory.write, hv] using
      Memory.insert_wf _ a.toNat v he (Memory.erase_absent m.cells a.toNat) a.isLt hv

/-- Placing bytes keeps the canonical form. -/
theorem Memory.place_wf (bytes : List Byte) :
    ∀ {m : Memory} (a : Word), m.wf = true → (m.place a bytes).wf = true := by
  induction bytes with
  | nil => exact fun _ h => h
  | cons v rest ih => exact fun a h => ih (a + 1) (Memory.write_wf a v h)

/-- Placing bytes leaves every cell past their end as it was. -/
theorem Memory.read_place_other (bytes : List Byte) :
    ∀ (m : Memory) (base addr : Word), bytes.length ≤ (addr - base).toNat →
      (m.place base bytes).read addr = m.read addr := by
  induction bytes with
  | nil => intro m base addr _; rfl
  | cons v rest ih =>
    intro m base addr h
    rw [List.length_cons] at h
    have hstep : (addr - (base + 1)).toNat = (addr - base).toNat - 1 := by bv_omega
    have hne : addr ≠ base := by bv_omega
    exact (ih (m.write base v) (base + 1) addr (by omega)).trans (Memory.read_write_other m v hne)

/-- Placing bytes puts each at its address; where more bytes than cells are placed, the last one that goes
to a cell stays. -/
theorem Memory.read_place_at (bytes : List Byte) :
    ∀ (m : Memory) (base : Word) (k : Nat) (h : k < bytes.length), bytes.length ≤ k + 65536 →
      (m.place base bytes).read (base + BitVec.ofNat 16 k) = bytes[k] := by
  induction bytes with
  | nil => intro m base k h; exact absurd h (Nat.not_lt_zero k)
  | cons v rest ih =>
    intro m base k h hlast
    rw [List.length_cons] at h hlast
    cases k with
    | zero =>
      have hfar : rest.length ≤ (base + BitVec.ofNat 16 0 - (base + 1)).toNat := by bv_omega
      refine (Memory.read_place_other rest (m.write base v) (base + 1) _ hfar).trans ?_
      simp
    | succ k =>
      have hcell : base + BitVec.ofNat 16 (k + 1) = base + 1 + BitVec.ofNat 16 k := by bv_omega
      rw [hcell]
      exact ih (m.write base v) (base + 1) k (by omega) (by omega)

/-- Reset memory lists nothing and is in canonical form. -/
theorem Memory.reset_wf (entry : Word) : (State.resetAt entry).mem.wf = true := rfl

/-- Every cell of reset memory is 0x00 (R61). -/
@[simp] theorem Memory.read_reset (entry a : Word) : (State.resetAt entry).mem.read a = 0x00 := rfl

end Sys2Proof.Machine
end

