-- ==== Sys2Proof/Laws/State.lean ====
section
/-! SUPPORT. One lemma for each field of State and each named update, true by unfolding, so that no later
proof unfolds a record update. -/

namespace Sys2Proof.Machine

/-! ### `charge` -/

@[simp] theorem State.charge_a (s : State) (n : Nat) : (s.charge n).a = s.a := rfl
@[simp] theorem State.charge_x (s : State) (n : Nat) : (s.charge n).x = s.x := rfl
@[simp] theorem State.charge_y (s : State) (n : Nat) : (s.charge n).y = s.y := rfl
@[simp] theorem State.charge_sp (s : State) (n : Nat) : (s.charge n).sp = s.sp := rfl
@[simp] theorem State.charge_pc (s : State) (n : Nat) : (s.charge n).pc = s.pc := rfl
@[simp] theorem State.charge_p (s : State) (n : Nat) : (s.charge n).p = s.p := rfl
@[simp] theorem State.charge_mem (s : State) (n : Nat) : (s.charge n).mem = s.mem := rfl
@[simp] theorem State.charge_cyc (s : State) (n : Nat) : (s.charge n).cyc = s.cyc - n := rfl
@[simp] theorem State.charge_decNotice (s : State) (n : Nat) : (s.charge n).decNotice = s.decNotice := rfl
@[simp] theorem State.charge_runState (s : State) (n : Nat) : (s.charge n).runState = s.runState := rfl
@[simp] theorem State.charge_cfg (s : State) (n : Nat) : (s.charge n).cfg = s.cfg := rfl

/-! ### `chargeNmos` -/

@[simp] theorem State.chargeNmos_a (s : State) (n : Nat) : (s.chargeNmos n).a = s.a := rfl
@[simp] theorem State.chargeNmos_x (s : State) (n : Nat) : (s.chargeNmos n).x = s.x := rfl
@[simp] theorem State.chargeNmos_y (s : State) (n : Nat) : (s.chargeNmos n).y = s.y := rfl
@[simp] theorem State.chargeNmos_sp (s : State) (n : Nat) : (s.chargeNmos n).sp = s.sp := rfl
@[simp] theorem State.chargeNmos_pc (s : State) (n : Nat) : (s.chargeNmos n).pc = s.pc := rfl
@[simp] theorem State.chargeNmos_p (s : State) (n : Nat) : (s.chargeNmos n).p = s.p := rfl
@[simp] theorem State.chargeNmos_mem (s : State) (n : Nat) : (s.chargeNmos n).mem = s.mem := rfl
@[simp] theorem State.chargeNmos_cyc (s : State) (n : Nat) : (s.chargeNmos n).cyc = s.cyc - nmosDelta s.cfg n := rfl
@[simp] theorem State.chargeNmos_decNotice (s : State) (n : Nat) : (s.chargeNmos n).decNotice = s.decNotice := rfl
@[simp] theorem State.chargeNmos_runState (s : State) (n : Nat) : (s.chargeNmos n).runState = s.runState := rfl
@[simp] theorem State.chargeNmos_cfg (s : State) (n : Nat) : (s.chargeNmos n).cfg = s.cfg := rfl

/-! ### `fetched` -/

@[simp] theorem State.fetched_a (s : State) (n : Nat) : (s.fetched n).a = s.a := rfl
@[simp] theorem State.fetched_x (s : State) (n : Nat) : (s.fetched n).x = s.x := rfl
@[simp] theorem State.fetched_y (s : State) (n : Nat) : (s.fetched n).y = s.y := rfl
@[simp] theorem State.fetched_sp (s : State) (n : Nat) : (s.fetched n).sp = s.sp := rfl
@[simp] theorem State.fetched_pc (s : State) (n : Nat) : (s.fetched n).pc = s.pc + BitVec.ofNat 16 n := rfl
@[simp] theorem State.fetched_p (s : State) (n : Nat) : (s.fetched n).p = s.p := rfl
@[simp] theorem State.fetched_mem (s : State) (n : Nat) : (s.fetched n).mem = s.mem := rfl
@[simp] theorem State.fetched_cyc (s : State) (n : Nat) : (s.fetched n).cyc = s.cyc - n := rfl
@[simp] theorem State.fetched_decNotice (s : State) (n : Nat) : (s.fetched n).decNotice = s.decNotice := rfl
@[simp] theorem State.fetched_runState (s : State) (n : Nat) : (s.fetched n).runState = s.runState := rfl
@[simp] theorem State.fetched_cfg (s : State) (n : Nat) : (s.fetched n).cfg = s.cfg := rfl

/-! ### `readByte` -/

@[simp] theorem State.readByte_state_a (s : State) (addr : Word) : ((s.readByte addr).2).a = s.a := rfl
@[simp] theorem State.readByte_state_x (s : State) (addr : Word) : ((s.readByte addr).2).x = s.x := rfl
@[simp] theorem State.readByte_state_y (s : State) (addr : Word) : ((s.readByte addr).2).y = s.y := rfl
@[simp] theorem State.readByte_state_sp (s : State) (addr : Word) : ((s.readByte addr).2).sp = s.sp := rfl
@[simp] theorem State.readByte_state_pc (s : State) (addr : Word) : ((s.readByte addr).2).pc = s.pc := rfl
@[simp] theorem State.readByte_state_p (s : State) (addr : Word) : ((s.readByte addr).2).p = s.p := rfl
@[simp] theorem State.readByte_state_mem (s : State) (addr : Word) : ((s.readByte addr).2).mem = s.mem := rfl
@[simp] theorem State.readByte_state_cyc (s : State) (addr : Word) : ((s.readByte addr).2).cyc = s.cyc - 1 := rfl
@[simp] theorem State.readByte_state_decNotice (s : State) (addr : Word) : ((s.readByte addr).2).decNotice = s.decNotice := rfl
@[simp] theorem State.readByte_state_runState (s : State) (addr : Word) : ((s.readByte addr).2).runState = s.runState := rfl
@[simp] theorem State.readByte_state_cfg (s : State) (addr : Word) : ((s.readByte addr).2).cfg = s.cfg := rfl

/-! ### `writeByte` -/

@[simp] theorem State.writeByte_a (s : State) (addr : Word) (v : Byte) : (s.writeByte addr v).a = s.a := rfl
@[simp] theorem State.writeByte_x (s : State) (addr : Word) (v : Byte) : (s.writeByte addr v).x = s.x := rfl
@[simp] theorem State.writeByte_y (s : State) (addr : Word) (v : Byte) : (s.writeByte addr v).y = s.y := rfl
@[simp] theorem State.writeByte_sp (s : State) (addr : Word) (v : Byte) : (s.writeByte addr v).sp = s.sp := rfl
@[simp] theorem State.writeByte_pc (s : State) (addr : Word) (v : Byte) : (s.writeByte addr v).pc = s.pc := rfl
@[simp] theorem State.writeByte_p (s : State) (addr : Word) (v : Byte) : (s.writeByte addr v).p = s.p := rfl
@[simp] theorem State.writeByte_mem (s : State) (addr : Word) (v : Byte) : (s.writeByte addr v).mem = s.mem.write addr v := rfl
@[simp] theorem State.writeByte_cyc (s : State) (addr : Word) (v : Byte) : (s.writeByte addr v).cyc = s.cyc - 1 := rfl
@[simp] theorem State.writeByte_decNotice (s : State) (addr : Word) (v : Byte) : (s.writeByte addr v).decNotice = s.decNotice := rfl
@[simp] theorem State.writeByte_runState (s : State) (addr : Word) (v : Byte) : (s.writeByte addr v).runState = s.runState := rfl
@[simp] theorem State.writeByte_cfg (s : State) (addr : Word) (v : Byte) : (s.writeByte addr v).cfg = s.cfg := rfl

/-! ### `push` -/

@[simp] theorem State.push_a (s : State) (v : Byte) : (s.push v).a = s.a := rfl
@[simp] theorem State.push_x (s : State) (v : Byte) : (s.push v).x = s.x := rfl
@[simp] theorem State.push_y (s : State) (v : Byte) : (s.push v).y = s.y := rfl
@[simp] theorem State.push_sp (s : State) (v : Byte) : (s.push v).sp = s.sp - 1 := rfl
@[simp] theorem State.push_pc (s : State) (v : Byte) : (s.push v).pc = s.pc := rfl
@[simp] theorem State.push_p (s : State) (v : Byte) : (s.push v).p = s.p := rfl
@[simp] theorem State.push_mem (s : State) (v : Byte) : (s.push v).mem = s.mem.write (s.stackAddr 0) v := rfl
@[simp] theorem State.push_cyc (s : State) (v : Byte) : (s.push v).cyc = s.cyc - 1 := rfl
@[simp] theorem State.push_decNotice (s : State) (v : Byte) : (s.push v).decNotice = s.decNotice := rfl
@[simp] theorem State.push_runState (s : State) (v : Byte) : (s.push v).runState = s.runState := rfl
@[simp] theorem State.push_cfg (s : State) (v : Byte) : (s.push v).cfg = s.cfg := rfl

/-! ### `pop` -/

@[simp] theorem State.pop_state_a (s : State) : (s.pop.2).a = s.a := rfl
@[simp] theorem State.pop_state_x (s : State) : (s.pop.2).x = s.x := rfl
@[simp] theorem State.pop_state_y (s : State) : (s.pop.2).y = s.y := rfl
@[simp] theorem State.pop_state_sp (s : State) : (s.pop.2).sp = s.sp + 1 := rfl
@[simp] theorem State.pop_state_pc (s : State) : (s.pop.2).pc = s.pc := rfl
@[simp] theorem State.pop_state_p (s : State) : (s.pop.2).p = s.p := rfl
@[simp] theorem State.pop_state_mem (s : State) : (s.pop.2).mem = s.mem := rfl
@[simp] theorem State.pop_state_cyc (s : State) : (s.pop.2).cyc = s.cyc - 1 := rfl
@[simp] theorem State.pop_state_decNotice (s : State) : (s.pop.2).decNotice = s.decNotice := rfl
@[simp] theorem State.pop_state_runState (s : State) : (s.pop.2).runState = s.runState := rfl
@[simp] theorem State.pop_state_cfg (s : State) : (s.pop.2).cfg = s.cfg := rfl

/-! ### `noteDecimal` -/

@[simp] theorem State.noteDecimal_a (s : State) : (s.noteDecimal).a = s.a := rfl
@[simp] theorem State.noteDecimal_x (s : State) : (s.noteDecimal).x = s.x := rfl
@[simp] theorem State.noteDecimal_y (s : State) : (s.noteDecimal).y = s.y := rfl
@[simp] theorem State.noteDecimal_sp (s : State) : (s.noteDecimal).sp = s.sp := rfl
@[simp] theorem State.noteDecimal_pc (s : State) : (s.noteDecimal).pc = s.pc := rfl
@[simp] theorem State.noteDecimal_p (s : State) : (s.noteDecimal).p = s.p := rfl
@[simp] theorem State.noteDecimal_mem (s : State) : (s.noteDecimal).mem = s.mem := rfl
@[simp] theorem State.noteDecimal_cyc (s : State) : (s.noteDecimal).cyc = s.cyc := rfl
@[simp] theorem State.noteDecimal_decNotice (s : State) : (s.noteDecimal).decNotice = (s.decNotice || s.p.d) := rfl
@[simp] theorem State.noteDecimal_runState (s : State) : (s.noteDecimal).runState = s.runState := rfl
@[simp] theorem State.noteDecimal_cfg (s : State) : (s.noteDecimal).cfg = s.cfg := rfl

/-! ### `raiseDecodeError` -/

@[simp] theorem State.raiseDecodeError_a (s : State) (opcode : Byte) (addr : Word) : (s.raiseDecodeError opcode addr).a = s.a := rfl
@[simp] theorem State.raiseDecodeError_x (s : State) (opcode : Byte) (addr : Word) : (s.raiseDecodeError opcode addr).x = s.x := rfl
@[simp] theorem State.raiseDecodeError_y (s : State) (opcode : Byte) (addr : Word) : (s.raiseDecodeError opcode addr).y = s.y := rfl
@[simp] theorem State.raiseDecodeError_sp (s : State) (opcode : Byte) (addr : Word) : (s.raiseDecodeError opcode addr).sp = s.sp := rfl
@[simp] theorem State.raiseDecodeError_pc (s : State) (opcode : Byte) (addr : Word) : (s.raiseDecodeError opcode addr).pc = s.pc + 1 := rfl
@[simp] theorem State.raiseDecodeError_p (s : State) (opcode : Byte) (addr : Word) : (s.raiseDecodeError opcode addr).p = s.p := rfl
@[simp] theorem State.raiseDecodeError_mem (s : State) (opcode : Byte) (addr : Word) : (s.raiseDecodeError opcode addr).mem = s.mem := rfl
@[simp] theorem State.raiseDecodeError_cyc (s : State) (opcode : Byte) (addr : Word) : (s.raiseDecodeError opcode addr).cyc = s.cyc - 1 := rfl
@[simp] theorem State.raiseDecodeError_decNotice (s : State) (opcode : Byte) (addr : Word) : (s.raiseDecodeError opcode addr).decNotice = s.decNotice := rfl
@[simp] theorem State.raiseDecodeError_runState (s : State) (opcode : Byte) (addr : Word) : (s.raiseDecodeError opcode addr).runState = .faulted opcode addr := rfl
@[simp] theorem State.raiseDecodeError_cfg (s : State) (opcode : Byte) (addr : Word) : (s.raiseDecodeError opcode addr).cfg = s.cfg := rfl

/-! ### `endCall` -/

@[simp] theorem State.endCall_a (s : State) : (s.endCall).a = s.a := rfl
@[simp] theorem State.endCall_x (s : State) : (s.endCall).x = s.x := rfl
@[simp] theorem State.endCall_y (s : State) : (s.endCall).y = s.y := rfl
@[simp] theorem State.endCall_sp (s : State) : (s.endCall).sp = s.sp := rfl
@[simp] theorem State.endCall_pc (s : State) : (s.endCall).pc = s.pc := rfl
@[simp] theorem State.endCall_p (s : State) : (s.endCall).p = s.p := rfl
@[simp] theorem State.endCall_mem (s : State) : (s.endCall).mem = s.mem := rfl
@[simp] theorem State.endCall_cyc (s : State) : (s.endCall).cyc = State.idleCyc := rfl
@[simp] theorem State.endCall_decNotice (s : State) : (s.endCall).decNotice = s.decNotice := rfl
@[simp] theorem State.endCall_runState (s : State) : (s.endCall).runState = s.runState := rfl
@[simp] theorem State.endCall_cfg (s : State) : (s.endCall).cfg = s.cfg := rfl

/-! ### Status updates -/

@[simp] theorem Status.setNZ_n (p : Status) (v : Byte) : (p.setNZ v).n = v.getLsbD 7 := rfl
@[simp] theorem Status.setNZ_v (p : Status) (v : Byte) : (p.setNZ v).v = p.v := rfl
@[simp] theorem Status.setNZ_u (p : Status) (v : Byte) : (p.setNZ v).u = p.u := rfl
@[simp] theorem Status.setNZ_b (p : Status) (v : Byte) : (p.setNZ v).b = p.b := rfl
@[simp] theorem Status.setNZ_d (p : Status) (v : Byte) : (p.setNZ v).d = p.d := rfl
@[simp] theorem Status.setNZ_i (p : Status) (v : Byte) : (p.setNZ v).i = p.i := rfl
@[simp] theorem Status.setNZ_z (p : Status) (v : Byte) : (p.setNZ v).z = (v == 0) := rfl
@[simp] theorem Status.setNZ_c (p : Status) (v : Byte) : (p.setNZ v).c = p.c := rfl

@[simp] theorem Status.setSum_n (p : Status) (r : SumResult) : (p.setSum r).n = r.result.getLsbD 7 := rfl
@[simp] theorem Status.setSum_v (p : Status) (r : SumResult) : (p.setSum r).v = r.overflow := rfl
@[simp] theorem Status.setSum_u (p : Status) (r : SumResult) : (p.setSum r).u = p.u := rfl
@[simp] theorem Status.setSum_b (p : Status) (r : SumResult) : (p.setSum r).b = p.b := rfl
@[simp] theorem Status.setSum_d (p : Status) (r : SumResult) : (p.setSum r).d = p.d := rfl
@[simp] theorem Status.setSum_i (p : Status) (r : SumResult) : (p.setSum r).i = p.i := rfl
@[simp] theorem Status.setSum_z (p : Status) (r : SumResult) : (p.setSum r).z = (r.result == 0) := rfl
@[simp] theorem Status.setSum_c (p : Status) (r : SumResult) : (p.setSum r).c = r.carry := rfl

@[simp] theorem Status.compare_n (p : Status) (reg m : Byte) : (p.compare reg m).n = (reg - m).getLsbD 7 := rfl
@[simp] theorem Status.compare_v (p : Status) (reg m : Byte) : (p.compare reg m).v = p.v := rfl
@[simp] theorem Status.compare_u (p : Status) (reg m : Byte) : (p.compare reg m).u = p.u := rfl
@[simp] theorem Status.compare_b (p : Status) (reg m : Byte) : (p.compare reg m).b = p.b := rfl
@[simp] theorem Status.compare_d (p : Status) (reg m : Byte) : (p.compare reg m).d = p.d := rfl
@[simp] theorem Status.compare_i (p : Status) (reg m : Byte) : (p.compare reg m).i = p.i := rfl
@[simp] theorem Status.compare_z (p : Status) (reg m : Byte) : (p.compare reg m).z = (reg == m) := rfl
@[simp] theorem Status.compare_c (p : Status) (reg m : Byte) : (p.compare reg m).c = decide (m.toNat ≤ reg.toNat) := rfl

@[simp] theorem Status.bitTest_n (p : Status) (a m : Byte) : (p.bitTest a m).n = m.getLsbD 7 := rfl
@[simp] theorem Status.bitTest_v (p : Status) (a m : Byte) : (p.bitTest a m).v = m.getLsbD 6 := rfl
@[simp] theorem Status.bitTest_u (p : Status) (a m : Byte) : (p.bitTest a m).u = p.u := rfl
@[simp] theorem Status.bitTest_b (p : Status) (a m : Byte) : (p.bitTest a m).b = p.b := rfl
@[simp] theorem Status.bitTest_d (p : Status) (a m : Byte) : (p.bitTest a m).d = p.d := rfl
@[simp] theorem Status.bitTest_i (p : Status) (a m : Byte) : (p.bitTest a m).i = p.i := rfl
@[simp] theorem Status.bitTest_z (p : Status) (a m : Byte) : (p.bitTest a m).z = ((a &&& m) == 0) := rfl
@[simp] theorem Status.bitTest_c (p : Status) (a m : Byte) : (p.bitTest a m).c = p.c := rfl

end Sys2Proof.Machine
end

