-- ==== Sys2Proof/Laws/Operations.lean ====
section
/-! SUPPORT. For each shared operation one lemma that says everything it can do to the state, so that a
later proof cites it instead of unfolding the operation. -/

namespace Sys2Proof.Machine

theorem State.charge_charge (s : State) (m n : Nat) : (s.charge m).charge n = s.charge (m + n) := by
  simp only [State.charge]
  congr 1
  omega

theorem State.readWord_value (s : State) (addr : Word) :
    (s.readWord addr).1 = leWord (s.mem.read addr) (s.mem.read (addr + 1)) := rfl

theorem State.readWord_state (s : State) (addr : Word) : (s.readWord addr).2 = s.charge 2 :=
  s.charge_charge 1 1

theorem zpReadWord_value (p : Byte) (s : State) :
    (zpReadWord p s).1 = leWord (s.mem.read (zext16 p)) (s.mem.read (zext16 (p + 1))) := rfl

theorem zpReadWord_state (p : Byte) (s : State) : (zpReadWord p s).2 = s.charge 2 :=
  s.charge_charge 1 1

theorem State.pushWord_eq (s : State) (v : Word) :
    s.pushWord v =
      { s.charge 2 with
        mem := (s.mem.write (s.stackAddr 0) (hiByte v)).write (s.stackAddr (-1)) (loByte v)
        sp := s.sp - 2 } := by
  simp only [State.pushWord, State.writeByte, State.charge]
  congr 1
  omega

theorem State.popWord_value (s : State) :
    s.popWord.1 =
      leWord (s.mem.read (0x0100 ||| zext16 (s.sp + 2 + -1))) (s.mem.read (0x0100 ||| zext16 (s.sp + 2 + 0))) :=
  rfl

theorem State.popWord_state (s : State) : s.popWord.2 = { s.charge 2 with sp := s.sp + 2 } := by
  simp only [State.popWord, State.readByte, State.charge]
  congr 1
  omega

/-- A resolver writes no register but PC and no memory (R100). -/
theorem effectiveAddress_state (variant : Variant) (m : MemOperand) (s : State) :
    (effectiveAddress variant m s).2 =
      { s with pc := (effectiveAddress variant m s).2.pc, cyc := (effectiveAddress variant m s).2.cyc } := by
  cases m <;> rfl

/-- Fetching an operand writes no register but PC and no memory (R100, R116). -/
theorem readOperand_state (o : ReadOperand) (s : State) :
    (readOperand o s).2 =
      { s with pc := (readOperand o s).2.pc, cyc := (readOperand o s).2.cyc } := by
  cases o with
  | im v => rfl
  | mem m =>
    simp only [readOperand, State.readByte]
    rw [effectiveAddress_state]
    rfl

theorem readOperand_mem_value (m : MemOperand) (s : State) :
    (readOperand (.mem m) s).1 = s.mem.read (effectiveAddress .read m s).1 := by
  simp only [readOperand, State.readByte]
  rw [effectiveAddress_state]

/-- Finding a JMP (ind) target writes no register but PC and no memory (R114). -/
theorem indirectTarget_state (ptr : Word) (s : State) :
    (indirectTarget ptr s).2 = (s.fetched 2).charge 2 := by
  dsimp only [indirectTarget]
  split
  · exact State.charge_charge _ 1 1
  · exact State.readWord_state _ _

/-- Both stack addresses of a word are told apart (R180): they differ in their low byte. -/
theorem stackAddr_inj (s : State) {j k : Byte} : s.stackAddr j = s.stackAddr k ↔ j = k := by
  constructor
  · intro h
    have h8 := congrArg (BitVec.setWidth 8) h
    simp only [State.stackAddr, zext16, BitVec.setWidth_or] at h8
    simpa using h8
  · rintro rfl
    rfl

/-- A stack address lies in page one (R180). -/
theorem stackAddr_page (s : State) (k : Byte) : (s.stackAddr k).toNat / 256 = 1 := by
  have hk := (s.sp + k).isLt
  have h : (s.stackAddr k).toNat = 1 <<< 8 ||| (s.sp + k).toNat := by
    simp only [State.stackAddr, BitVec.toNat_or, zext16_toNat]
    rfl
  rw [h, ← Nat.shiftLeft_add_eq_or_of_lt hk]
  simp only [Nat.shiftLeft_eq]
  omega

/-! ### The same, field by field -/

@[simp] theorem effectiveAddress_a (variant : Variant) (m : MemOperand) (s : State) : (effectiveAddress variant m s).2.a = s.a :=
  (congrArg State.a (effectiveAddress_state variant m s)).trans rfl
@[simp] theorem effectiveAddress_x (variant : Variant) (m : MemOperand) (s : State) : (effectiveAddress variant m s).2.x = s.x :=
  (congrArg State.x (effectiveAddress_state variant m s)).trans rfl
@[simp] theorem effectiveAddress_y (variant : Variant) (m : MemOperand) (s : State) : (effectiveAddress variant m s).2.y = s.y :=
  (congrArg State.y (effectiveAddress_state variant m s)).trans rfl
@[simp] theorem effectiveAddress_sp (variant : Variant) (m : MemOperand) (s : State) : (effectiveAddress variant m s).2.sp = s.sp :=
  (congrArg State.sp (effectiveAddress_state variant m s)).trans rfl
@[simp] theorem effectiveAddress_p (variant : Variant) (m : MemOperand) (s : State) : (effectiveAddress variant m s).2.p = s.p :=
  (congrArg State.p (effectiveAddress_state variant m s)).trans rfl
@[simp] theorem effectiveAddress_mem (variant : Variant) (m : MemOperand) (s : State) : (effectiveAddress variant m s).2.mem = s.mem :=
  (congrArg State.mem (effectiveAddress_state variant m s)).trans rfl
@[simp] theorem effectiveAddress_decNotice (variant : Variant) (m : MemOperand) (s : State) : (effectiveAddress variant m s).2.decNotice = s.decNotice :=
  (congrArg State.decNotice (effectiveAddress_state variant m s)).trans rfl
@[simp] theorem effectiveAddress_runState (variant : Variant) (m : MemOperand) (s : State) : (effectiveAddress variant m s).2.runState = s.runState :=
  (congrArg State.runState (effectiveAddress_state variant m s)).trans rfl
@[simp] theorem effectiveAddress_cfg (variant : Variant) (m : MemOperand) (s : State) : (effectiveAddress variant m s).2.cfg = s.cfg :=
  (congrArg State.cfg (effectiveAddress_state variant m s)).trans rfl

@[simp] theorem readOperand_a (o : ReadOperand) (s : State) : (readOperand o s).2.a = s.a :=
  (congrArg State.a (readOperand_state o s)).trans rfl
@[simp] theorem readOperand_x (o : ReadOperand) (s : State) : (readOperand o s).2.x = s.x :=
  (congrArg State.x (readOperand_state o s)).trans rfl
@[simp] theorem readOperand_y (o : ReadOperand) (s : State) : (readOperand o s).2.y = s.y :=
  (congrArg State.y (readOperand_state o s)).trans rfl
@[simp] theorem readOperand_sp (o : ReadOperand) (s : State) : (readOperand o s).2.sp = s.sp :=
  (congrArg State.sp (readOperand_state o s)).trans rfl
@[simp] theorem readOperand_p (o : ReadOperand) (s : State) : (readOperand o s).2.p = s.p :=
  (congrArg State.p (readOperand_state o s)).trans rfl
@[simp] theorem readOperand_mem (o : ReadOperand) (s : State) : (readOperand o s).2.mem = s.mem :=
  (congrArg State.mem (readOperand_state o s)).trans rfl
@[simp] theorem readOperand_decNotice (o : ReadOperand) (s : State) : (readOperand o s).2.decNotice = s.decNotice :=
  (congrArg State.decNotice (readOperand_state o s)).trans rfl
@[simp] theorem readOperand_runState (o : ReadOperand) (s : State) : (readOperand o s).2.runState = s.runState :=
  (congrArg State.runState (readOperand_state o s)).trans rfl
@[simp] theorem readOperand_cfg (o : ReadOperand) (s : State) : (readOperand o s).2.cfg = s.cfg :=
  (congrArg State.cfg (readOperand_state o s)).trans rfl

@[simp] theorem zpReadWord_a (p : Byte) (s : State) : (zpReadWord p s).2.a = s.a :=
  (congrArg State.a (zpReadWord_state p s)).trans rfl
@[simp] theorem zpReadWord_x (p : Byte) (s : State) : (zpReadWord p s).2.x = s.x :=
  (congrArg State.x (zpReadWord_state p s)).trans rfl
@[simp] theorem zpReadWord_y (p : Byte) (s : State) : (zpReadWord p s).2.y = s.y :=
  (congrArg State.y (zpReadWord_state p s)).trans rfl
@[simp] theorem zpReadWord_sp (p : Byte) (s : State) : (zpReadWord p s).2.sp = s.sp :=
  (congrArg State.sp (zpReadWord_state p s)).trans rfl
@[simp] theorem zpReadWord_pc (p : Byte) (s : State) : (zpReadWord p s).2.pc = s.pc :=
  (congrArg State.pc (zpReadWord_state p s)).trans rfl
@[simp] theorem zpReadWord_p (p : Byte) (s : State) : (zpReadWord p s).2.p = s.p :=
  (congrArg State.p (zpReadWord_state p s)).trans rfl
@[simp] theorem zpReadWord_mem (p : Byte) (s : State) : (zpReadWord p s).2.mem = s.mem :=
  (congrArg State.mem (zpReadWord_state p s)).trans rfl
@[simp] theorem zpReadWord_cyc (p : Byte) (s : State) : (zpReadWord p s).2.cyc = s.cyc - 2 :=
  (congrArg State.cyc (zpReadWord_state p s)).trans rfl
@[simp] theorem zpReadWord_decNotice (p : Byte) (s : State) : (zpReadWord p s).2.decNotice = s.decNotice :=
  (congrArg State.decNotice (zpReadWord_state p s)).trans rfl
@[simp] theorem zpReadWord_runState (p : Byte) (s : State) : (zpReadWord p s).2.runState = s.runState :=
  (congrArg State.runState (zpReadWord_state p s)).trans rfl
@[simp] theorem zpReadWord_cfg (p : Byte) (s : State) : (zpReadWord p s).2.cfg = s.cfg :=
  (congrArg State.cfg (zpReadWord_state p s)).trans rfl

@[simp] theorem State.readWord_a (s : State) (addr : Word) : (s.readWord addr).2.a = s.a :=
  (congrArg State.a (State.readWord_state s addr)).trans rfl
@[simp] theorem State.readWord_x (s : State) (addr : Word) : (s.readWord addr).2.x = s.x :=
  (congrArg State.x (State.readWord_state s addr)).trans rfl
@[simp] theorem State.readWord_y (s : State) (addr : Word) : (s.readWord addr).2.y = s.y :=
  (congrArg State.y (State.readWord_state s addr)).trans rfl
@[simp] theorem State.readWord_sp (s : State) (addr : Word) : (s.readWord addr).2.sp = s.sp :=
  (congrArg State.sp (State.readWord_state s addr)).trans rfl
@[simp] theorem State.readWord_pc (s : State) (addr : Word) : (s.readWord addr).2.pc = s.pc :=
  (congrArg State.pc (State.readWord_state s addr)).trans rfl
@[simp] theorem State.readWord_p (s : State) (addr : Word) : (s.readWord addr).2.p = s.p :=
  (congrArg State.p (State.readWord_state s addr)).trans rfl
@[simp] theorem State.readWord_mem (s : State) (addr : Word) : (s.readWord addr).2.mem = s.mem :=
  (congrArg State.mem (State.readWord_state s addr)).trans rfl
@[simp] theorem State.readWord_cyc (s : State) (addr : Word) : (s.readWord addr).2.cyc = s.cyc - 2 :=
  (congrArg State.cyc (State.readWord_state s addr)).trans rfl
@[simp] theorem State.readWord_decNotice (s : State) (addr : Word) : (s.readWord addr).2.decNotice = s.decNotice :=
  (congrArg State.decNotice (State.readWord_state s addr)).trans rfl
@[simp] theorem State.readWord_runState (s : State) (addr : Word) : (s.readWord addr).2.runState = s.runState :=
  (congrArg State.runState (State.readWord_state s addr)).trans rfl
@[simp] theorem State.readWord_cfg (s : State) (addr : Word) : (s.readWord addr).2.cfg = s.cfg :=
  (congrArg State.cfg (State.readWord_state s addr)).trans rfl

@[simp] theorem indirectTarget_a (ptr : Word) (s : State) : (indirectTarget ptr s).2.a = s.a :=
  (congrArg State.a (indirectTarget_state ptr s)).trans rfl
@[simp] theorem indirectTarget_x (ptr : Word) (s : State) : (indirectTarget ptr s).2.x = s.x :=
  (congrArg State.x (indirectTarget_state ptr s)).trans rfl
@[simp] theorem indirectTarget_y (ptr : Word) (s : State) : (indirectTarget ptr s).2.y = s.y :=
  (congrArg State.y (indirectTarget_state ptr s)).trans rfl
@[simp] theorem indirectTarget_sp (ptr : Word) (s : State) : (indirectTarget ptr s).2.sp = s.sp :=
  (congrArg State.sp (indirectTarget_state ptr s)).trans rfl
@[simp] theorem indirectTarget_pc (ptr : Word) (s : State) : (indirectTarget ptr s).2.pc = s.pc + 2 :=
  (congrArg State.pc (indirectTarget_state ptr s)).trans rfl
@[simp] theorem indirectTarget_p (ptr : Word) (s : State) : (indirectTarget ptr s).2.p = s.p :=
  (congrArg State.p (indirectTarget_state ptr s)).trans rfl
@[simp] theorem indirectTarget_mem (ptr : Word) (s : State) : (indirectTarget ptr s).2.mem = s.mem :=
  (congrArg State.mem (indirectTarget_state ptr s)).trans rfl
@[simp] theorem indirectTarget_cyc (ptr : Word) (s : State) : (indirectTarget ptr s).2.cyc = s.cyc - 2 - 2 :=
  (congrArg State.cyc (indirectTarget_state ptr s)).trans rfl
@[simp] theorem indirectTarget_decNotice (ptr : Word) (s : State) : (indirectTarget ptr s).2.decNotice = s.decNotice :=
  (congrArg State.decNotice (indirectTarget_state ptr s)).trans rfl
@[simp] theorem indirectTarget_runState (ptr : Word) (s : State) : (indirectTarget ptr s).2.runState = s.runState :=
  (congrArg State.runState (indirectTarget_state ptr s)).trans rfl
@[simp] theorem indirectTarget_cfg (ptr : Word) (s : State) : (indirectTarget ptr s).2.cfg = s.cfg :=
  (congrArg State.cfg (indirectTarget_state ptr s)).trans rfl

@[simp] theorem State.pushWord_a (s : State) (v : Word) : (s.pushWord v).a = s.a :=
  (congrArg State.a (State.pushWord_eq s v)).trans rfl
@[simp] theorem State.pushWord_x (s : State) (v : Word) : (s.pushWord v).x = s.x :=
  (congrArg State.x (State.pushWord_eq s v)).trans rfl
@[simp] theorem State.pushWord_y (s : State) (v : Word) : (s.pushWord v).y = s.y :=
  (congrArg State.y (State.pushWord_eq s v)).trans rfl
@[simp] theorem State.pushWord_sp (s : State) (v : Word) : (s.pushWord v).sp = s.sp - 2 :=
  (congrArg State.sp (State.pushWord_eq s v)).trans rfl
@[simp] theorem State.pushWord_pc (s : State) (v : Word) : (s.pushWord v).pc = s.pc :=
  (congrArg State.pc (State.pushWord_eq s v)).trans rfl
@[simp] theorem State.pushWord_p (s : State) (v : Word) : (s.pushWord v).p = s.p :=
  (congrArg State.p (State.pushWord_eq s v)).trans rfl
@[simp] theorem State.pushWord_cyc (s : State) (v : Word) : (s.pushWord v).cyc = s.cyc - 2 :=
  (congrArg State.cyc (State.pushWord_eq s v)).trans rfl
@[simp] theorem State.pushWord_decNotice (s : State) (v : Word) : (s.pushWord v).decNotice = s.decNotice :=
  (congrArg State.decNotice (State.pushWord_eq s v)).trans rfl
@[simp] theorem State.pushWord_runState (s : State) (v : Word) : (s.pushWord v).runState = s.runState :=
  (congrArg State.runState (State.pushWord_eq s v)).trans rfl
@[simp] theorem State.pushWord_cfg (s : State) (v : Word) : (s.pushWord v).cfg = s.cfg :=
  (congrArg State.cfg (State.pushWord_eq s v)).trans rfl

@[simp] theorem State.popWord_a (s : State) : s.popWord.2.a = s.a :=
  (congrArg State.a (State.popWord_state s)).trans rfl
@[simp] theorem State.popWord_x (s : State) : s.popWord.2.x = s.x :=
  (congrArg State.x (State.popWord_state s)).trans rfl
@[simp] theorem State.popWord_y (s : State) : s.popWord.2.y = s.y :=
  (congrArg State.y (State.popWord_state s)).trans rfl
@[simp] theorem State.popWord_sp (s : State) : s.popWord.2.sp = s.sp + 2 :=
  (congrArg State.sp (State.popWord_state s)).trans rfl
@[simp] theorem State.popWord_pc (s : State) : s.popWord.2.pc = s.pc :=
  (congrArg State.pc (State.popWord_state s)).trans rfl
@[simp] theorem State.popWord_p (s : State) : s.popWord.2.p = s.p :=
  (congrArg State.p (State.popWord_state s)).trans rfl
@[simp] theorem State.popWord_mem (s : State) : s.popWord.2.mem = s.mem :=
  (congrArg State.mem (State.popWord_state s)).trans rfl
@[simp] theorem State.popWord_cyc (s : State) : s.popWord.2.cyc = s.cyc - 2 :=
  (congrArg State.cyc (State.popWord_state s)).trans rfl
@[simp] theorem State.popWord_decNotice (s : State) : s.popWord.2.decNotice = s.decNotice :=
  (congrArg State.decNotice (State.popWord_state s)).trans rfl
@[simp] theorem State.popWord_runState (s : State) : s.popWord.2.runState = s.runState :=
  (congrArg State.runState (State.popWord_state s)).trans rfl
@[simp] theorem State.popWord_cfg (s : State) : s.popWord.2.cfg = s.cfg :=
  (congrArg State.cfg (State.popWord_state s)).trans rfl
@[simp] theorem State.pushWord_mem (s : State) (v : Word) :
    (s.pushWord v).mem =
      (s.mem.write (s.stackAddr 0) (hiByte v)).write (s.stackAddr (-1)) (loByte v) := rfl

end Sys2Proof.Machine
end

