-- ==== Sys2Proof/Laws/PerInstr.lean ====
section
/-! SUPPORT. A property of every instruction as syntax, one lemma for each constructor: the encoder gives
as many bytes as the instruction's mode has (rules R70 and R71 of 30_encoding.md), and they are well
formed by the list of undefined bytes (R79) and the lengths of Sys2Proof/WellFormed.lean. -/

namespace Sys2Proof.Laws.EncodedForm

/-- The encoding has the instruction's length and is well formed. -/
def Statement (i : Instr) : Prop :=
  (encode i).length = i.length ∧ wellFormedBytes (encode i) = true

theorem ldaIm (imm : Byte) : Statement (.ldaIm imm) := ⟨rfl, rfl⟩
theorem ldaZp (zp : Byte) : Statement (.ldaZp zp) := ⟨rfl, rfl⟩
theorem ldaZpx (zp : Byte) : Statement (.ldaZpx zp) := ⟨rfl, rfl⟩
theorem ldaAbs (addr : Word) : Statement (.ldaAbs addr) := ⟨rfl, rfl⟩
theorem ldaAbsx (base : Word) : Statement (.ldaAbsx base) := ⟨rfl, rfl⟩
theorem ldaAbsy (base : Word) : Statement (.ldaAbsy base) := ⟨rfl, rfl⟩
theorem ldaIndx (zp : Byte) : Statement (.ldaIndx zp) := ⟨rfl, rfl⟩
theorem ldaIndy (zp : Byte) : Statement (.ldaIndy zp) := ⟨rfl, rfl⟩
theorem ldxIm (imm : Byte) : Statement (.ldxIm imm) := ⟨rfl, rfl⟩
theorem ldxZp (zp : Byte) : Statement (.ldxZp zp) := ⟨rfl, rfl⟩
theorem ldxZpy (zp : Byte) : Statement (.ldxZpy zp) := ⟨rfl, rfl⟩
theorem ldxAbs (addr : Word) : Statement (.ldxAbs addr) := ⟨rfl, rfl⟩
theorem ldxAbsy (base : Word) : Statement (.ldxAbsy base) := ⟨rfl, rfl⟩
theorem ldyIm (imm : Byte) : Statement (.ldyIm imm) := ⟨rfl, rfl⟩
theorem ldyZp (zp : Byte) : Statement (.ldyZp zp) := ⟨rfl, rfl⟩
theorem ldyZpx (zp : Byte) : Statement (.ldyZpx zp) := ⟨rfl, rfl⟩
theorem ldyAbs (addr : Word) : Statement (.ldyAbs addr) := ⟨rfl, rfl⟩
theorem ldyAbsx (base : Word) : Statement (.ldyAbsx base) := ⟨rfl, rfl⟩
theorem staZp (zp : Byte) : Statement (.staZp zp) := ⟨rfl, rfl⟩
theorem staZpx (zp : Byte) : Statement (.staZpx zp) := ⟨rfl, rfl⟩
theorem staAbs (addr : Word) : Statement (.staAbs addr) := ⟨rfl, rfl⟩
theorem staAbsx (base : Word) : Statement (.staAbsx base) := ⟨rfl, rfl⟩
theorem staAbsy (base : Word) : Statement (.staAbsy base) := ⟨rfl, rfl⟩
theorem staIndx (zp : Byte) : Statement (.staIndx zp) := ⟨rfl, rfl⟩
theorem staIndy (zp : Byte) : Statement (.staIndy zp) := ⟨rfl, rfl⟩
theorem stxZp (zp : Byte) : Statement (.stxZp zp) := ⟨rfl, rfl⟩
theorem stxZpy (zp : Byte) : Statement (.stxZpy zp) := ⟨rfl, rfl⟩
theorem stxAbs (addr : Word) : Statement (.stxAbs addr) := ⟨rfl, rfl⟩
theorem styZp (zp : Byte) : Statement (.styZp zp) := ⟨rfl, rfl⟩
theorem styZpx (zp : Byte) : Statement (.styZpx zp) := ⟨rfl, rfl⟩
theorem styAbs (addr : Word) : Statement (.styAbs addr) := ⟨rfl, rfl⟩
theorem tax : Statement .tax := ⟨rfl, rfl⟩
theorem tay : Statement .tay := ⟨rfl, rfl⟩
theorem txa : Statement .txa := ⟨rfl, rfl⟩
theorem tya : Statement .tya := ⟨rfl, rfl⟩
theorem tsx : Statement .tsx := ⟨rfl, rfl⟩
theorem txs : Statement .txs := ⟨rfl, rfl⟩
theorem pha : Statement .pha := ⟨rfl, rfl⟩
theorem php : Statement .php := ⟨rfl, rfl⟩
theorem pla : Statement .pla := ⟨rfl, rfl⟩
theorem plp : Statement .plp := ⟨rfl, rfl⟩
theorem andIm (imm : Byte) : Statement (.andIm imm) := ⟨rfl, rfl⟩
theorem andZp (zp : Byte) : Statement (.andZp zp) := ⟨rfl, rfl⟩
theorem andZpx (zp : Byte) : Statement (.andZpx zp) := ⟨rfl, rfl⟩
theorem andAbs (addr : Word) : Statement (.andAbs addr) := ⟨rfl, rfl⟩
theorem andAbsx (base : Word) : Statement (.andAbsx base) := ⟨rfl, rfl⟩
theorem andAbsy (base : Word) : Statement (.andAbsy base) := ⟨rfl, rfl⟩
theorem andIndx (zp : Byte) : Statement (.andIndx zp) := ⟨rfl, rfl⟩
theorem andIndy (zp : Byte) : Statement (.andIndy zp) := ⟨rfl, rfl⟩
theorem oraIm (imm : Byte) : Statement (.oraIm imm) := ⟨rfl, rfl⟩
theorem oraZp (zp : Byte) : Statement (.oraZp zp) := ⟨rfl, rfl⟩
theorem oraZpx (zp : Byte) : Statement (.oraZpx zp) := ⟨rfl, rfl⟩
theorem oraAbs (addr : Word) : Statement (.oraAbs addr) := ⟨rfl, rfl⟩
theorem oraAbsx (base : Word) : Statement (.oraAbsx base) := ⟨rfl, rfl⟩
theorem oraAbsy (base : Word) : Statement (.oraAbsy base) := ⟨rfl, rfl⟩
theorem oraIndx (zp : Byte) : Statement (.oraIndx zp) := ⟨rfl, rfl⟩
theorem oraIndy (zp : Byte) : Statement (.oraIndy zp) := ⟨rfl, rfl⟩
theorem eorIm (imm : Byte) : Statement (.eorIm imm) := ⟨rfl, rfl⟩
theorem eorZp (zp : Byte) : Statement (.eorZp zp) := ⟨rfl, rfl⟩
theorem eorZpx (zp : Byte) : Statement (.eorZpx zp) := ⟨rfl, rfl⟩
theorem eorAbs (addr : Word) : Statement (.eorAbs addr) := ⟨rfl, rfl⟩
theorem eorAbsx (base : Word) : Statement (.eorAbsx base) := ⟨rfl, rfl⟩
theorem eorAbsy (base : Word) : Statement (.eorAbsy base) := ⟨rfl, rfl⟩
theorem eorIndx (zp : Byte) : Statement (.eorIndx zp) := ⟨rfl, rfl⟩
theorem eorIndy (zp : Byte) : Statement (.eorIndy zp) := ⟨rfl, rfl⟩
theorem bitZp (zp : Byte) : Statement (.bitZp zp) := ⟨rfl, rfl⟩
theorem bitAbs (addr : Word) : Statement (.bitAbs addr) := ⟨rfl, rfl⟩
theorem inx : Statement .inx := ⟨rfl, rfl⟩
theorem iny : Statement .iny := ⟨rfl, rfl⟩
theorem dex : Statement .dex := ⟨rfl, rfl⟩
theorem dey : Statement .dey := ⟨rfl, rfl⟩
theorem incZp (zp : Byte) : Statement (.incZp zp) := ⟨rfl, rfl⟩
theorem incZpx (zp : Byte) : Statement (.incZpx zp) := ⟨rfl, rfl⟩
theorem incAbs (addr : Word) : Statement (.incAbs addr) := ⟨rfl, rfl⟩
theorem incAbsx (base : Word) : Statement (.incAbsx base) := ⟨rfl, rfl⟩
theorem decZp (zp : Byte) : Statement (.decZp zp) := ⟨rfl, rfl⟩
theorem decZpx (zp : Byte) : Statement (.decZpx zp) := ⟨rfl, rfl⟩
theorem decAbs (addr : Word) : Statement (.decAbs addr) := ⟨rfl, rfl⟩
theorem decAbsx (base : Word) : Statement (.decAbsx base) := ⟨rfl, rfl⟩
theorem adcIm (imm : Byte) : Statement (.adcIm imm) := ⟨rfl, rfl⟩
theorem adcZp (zp : Byte) : Statement (.adcZp zp) := ⟨rfl, rfl⟩
theorem adcZpx (zp : Byte) : Statement (.adcZpx zp) := ⟨rfl, rfl⟩
theorem adcAbs (addr : Word) : Statement (.adcAbs addr) := ⟨rfl, rfl⟩
theorem adcAbsx (base : Word) : Statement (.adcAbsx base) := ⟨rfl, rfl⟩
theorem adcAbsy (base : Word) : Statement (.adcAbsy base) := ⟨rfl, rfl⟩
theorem adcIndx (zp : Byte) : Statement (.adcIndx zp) := ⟨rfl, rfl⟩
theorem adcIndy (zp : Byte) : Statement (.adcIndy zp) := ⟨rfl, rfl⟩
theorem sbcIm (imm : Byte) : Statement (.sbcIm imm) := ⟨rfl, rfl⟩
theorem sbcZp (zp : Byte) : Statement (.sbcZp zp) := ⟨rfl, rfl⟩
theorem sbcZpx (zp : Byte) : Statement (.sbcZpx zp) := ⟨rfl, rfl⟩
theorem sbcAbs (addr : Word) : Statement (.sbcAbs addr) := ⟨rfl, rfl⟩
theorem sbcAbsx (base : Word) : Statement (.sbcAbsx base) := ⟨rfl, rfl⟩
theorem sbcAbsy (base : Word) : Statement (.sbcAbsy base) := ⟨rfl, rfl⟩
theorem sbcIndx (zp : Byte) : Statement (.sbcIndx zp) := ⟨rfl, rfl⟩
theorem sbcIndy (zp : Byte) : Statement (.sbcIndy zp) := ⟨rfl, rfl⟩
theorem cmpIm (imm : Byte) : Statement (.cmpIm imm) := ⟨rfl, rfl⟩
theorem cmpZp (zp : Byte) : Statement (.cmpZp zp) := ⟨rfl, rfl⟩
theorem cmpZpx (zp : Byte) : Statement (.cmpZpx zp) := ⟨rfl, rfl⟩
theorem cmpAbs (addr : Word) : Statement (.cmpAbs addr) := ⟨rfl, rfl⟩
theorem cmpAbsx (base : Word) : Statement (.cmpAbsx base) := ⟨rfl, rfl⟩
theorem cmpAbsy (base : Word) : Statement (.cmpAbsy base) := ⟨rfl, rfl⟩
theorem cmpIndx (zp : Byte) : Statement (.cmpIndx zp) := ⟨rfl, rfl⟩
theorem cmpIndy (zp : Byte) : Statement (.cmpIndy zp) := ⟨rfl, rfl⟩
theorem cpxIm (imm : Byte) : Statement (.cpxIm imm) := ⟨rfl, rfl⟩
theorem cpxZp (zp : Byte) : Statement (.cpxZp zp) := ⟨rfl, rfl⟩
theorem cpxAbs (addr : Word) : Statement (.cpxAbs addr) := ⟨rfl, rfl⟩
theorem cpyIm (imm : Byte) : Statement (.cpyIm imm) := ⟨rfl, rfl⟩
theorem cpyZp (zp : Byte) : Statement (.cpyZp zp) := ⟨rfl, rfl⟩
theorem cpyAbs (addr : Word) : Statement (.cpyAbs addr) := ⟨rfl, rfl⟩
theorem aslAcc : Statement .aslAcc := ⟨rfl, rfl⟩
theorem aslZp (zp : Byte) : Statement (.aslZp zp) := ⟨rfl, rfl⟩
theorem aslZpx (zp : Byte) : Statement (.aslZpx zp) := ⟨rfl, rfl⟩
theorem aslAbs (addr : Word) : Statement (.aslAbs addr) := ⟨rfl, rfl⟩
theorem aslAbsx (base : Word) : Statement (.aslAbsx base) := ⟨rfl, rfl⟩
theorem lsrAcc : Statement .lsrAcc := ⟨rfl, rfl⟩
theorem lsrZp (zp : Byte) : Statement (.lsrZp zp) := ⟨rfl, rfl⟩
theorem lsrZpx (zp : Byte) : Statement (.lsrZpx zp) := ⟨rfl, rfl⟩
theorem lsrAbs (addr : Word) : Statement (.lsrAbs addr) := ⟨rfl, rfl⟩
theorem lsrAbsx (base : Word) : Statement (.lsrAbsx base) := ⟨rfl, rfl⟩
theorem rolAcc : Statement .rolAcc := ⟨rfl, rfl⟩
theorem rolZp (zp : Byte) : Statement (.rolZp zp) := ⟨rfl, rfl⟩
theorem rolZpx (zp : Byte) : Statement (.rolZpx zp) := ⟨rfl, rfl⟩
theorem rolAbs (addr : Word) : Statement (.rolAbs addr) := ⟨rfl, rfl⟩
theorem rolAbsx (base : Word) : Statement (.rolAbsx base) := ⟨rfl, rfl⟩
theorem rorAcc : Statement .rorAcc := ⟨rfl, rfl⟩
theorem rorZp (zp : Byte) : Statement (.rorZp zp) := ⟨rfl, rfl⟩
theorem rorZpx (zp : Byte) : Statement (.rorZpx zp) := ⟨rfl, rfl⟩
theorem rorAbs (addr : Word) : Statement (.rorAbs addr) := ⟨rfl, rfl⟩
theorem rorAbsx (base : Word) : Statement (.rorAbsx base) := ⟨rfl, rfl⟩
theorem jmpAbs (addr : Word) : Statement (.jmpAbs addr) := ⟨rfl, rfl⟩
theorem jmpInd (ptr : Word) : Statement (.jmpInd ptr) := ⟨rfl, rfl⟩
theorem jsrAbs (addr : Word) : Statement (.jsrAbs addr) := ⟨rfl, rfl⟩
theorem rts : Statement .rts := ⟨rfl, rfl⟩
theorem bcc (disp : Byte) : Statement (.bcc disp) := ⟨rfl, rfl⟩
theorem bcs (disp : Byte) : Statement (.bcs disp) := ⟨rfl, rfl⟩
theorem beq (disp : Byte) : Statement (.beq disp) := ⟨rfl, rfl⟩
theorem bmi (disp : Byte) : Statement (.bmi disp) := ⟨rfl, rfl⟩
theorem bne (disp : Byte) : Statement (.bne disp) := ⟨rfl, rfl⟩
theorem bpl (disp : Byte) : Statement (.bpl disp) := ⟨rfl, rfl⟩
theorem bvc (disp : Byte) : Statement (.bvc disp) := ⟨rfl, rfl⟩
theorem bvs (disp : Byte) : Statement (.bvs disp) := ⟨rfl, rfl⟩
theorem clc : Statement .clc := ⟨rfl, rfl⟩
theorem cld : Statement .cld := ⟨rfl, rfl⟩
theorem cli : Statement .cli := ⟨rfl, rfl⟩
theorem clv : Statement .clv := ⟨rfl, rfl⟩
theorem sec : Statement .sec := ⟨rfl, rfl⟩
theorem sed : Statement .sed := ⟨rfl, rfl⟩
theorem sei : Statement .sei := ⟨rfl, rfl⟩
theorem nop : Statement .nop := ⟨rfl, rfl⟩
theorem brk : Statement .brk := ⟨rfl, rfl⟩
theorem rti : Statement .rti := ⟨rfl, rfl⟩

end Sys2Proof.Laws.EncodedForm
end

