-- ==== Sys2Proof/Tests/Slice0.lean ====
section
/-! SUPPORT. The model's own tests: ill-formed terms refused, every opcode's decoding, one step for each
row of 95_test_vectors.md that is kept here, the host's vectors, and a witness for the hypotheses of every
statement that has some. Expected values are the spec's (its tables and vectors), never the model's. -/

open Sys2Proof Sys2Proof.Machine Sys2Proof.Spec

namespace Sys2Proof.Tests

/-! ### What is ill formed is refused -/

/-- No byte, an undefined opcode byte (R79), too few and too many operand bytes (R71): no instruction. -/
theorem test_illFormedBytes_refused :
    wellFormedBytes [] = false ∧ wellFormedBytes [0x02] = false ∧ wellFormedBytes [0xFF, 0x00, 0x00] = false ∧
    wellFormedBytes [0xA9] = false ∧ wellFormedBytes [0xAD, 0x34] = false ∧
    wellFormedBytes [0xEA, 0x00] = false ∧ wellFormedBytes [0x20, 0x00, 0x30, 0x00] = false := by decide

/-- One instruction of each length (R71). -/
theorem test_wellFormedBytes_accepted :
    wellFormedBytes [0xEA] = true ∧ wellFormedBytes [0xA9, 0x00] = true ∧
    wellFormedBytes [0xAD, 0x34, 0x12] = true := by decide

/-- An image needs its two address bytes (R373). -/
theorem test_illFormedImage_refused :
    wellFormedImage [0x00] = false ∧ wellFormedImage [0x00, 0x10] = true ∧
    State.reset.load [0x00] = none := ⟨by decide, by decide, rfl⟩

/-- The decoder names why it refuses. -/
theorem test_decode_rejects_by_name :
    decode [] = .error .empty ∧ decode [0x02, 0x00, 0x00] = .error (.undefinedOpcode 0x02) ∧
    decode [0xAD, 0x34] = .error (.truncated 0xAD) := ⟨rfl, rfl, rfl⟩

/-! ### Decoding: each opcode byte of rule R77's table, first operand byte 0x9C, second 0x5E -/

theorem test_decode_loads :
    ([(16, 0x9CA9), (16, 0x9CA5), (16, 0x9CB5), (24, 0x5E9CAD), (24, 0x5E9CBD), (24, 0x5E9CB9),
     (16, 0x9CA1), (16, 0x9CB1), (16, 0x9CA2), (16, 0x9CA6), (16, 0x9CB6), (24, 0x5E9CAE),
     (24, 0x5E9CBE), (16, 0x9CA0), (16, 0x9CA4), (16, 0x9CB4), (24, 0x5E9CAC), (24, 0x5E9CBC)] : List (Nat × Nat)).map
      (fun r => decodeTableWord r.1 r.2) =
    ([.ldaIm 0x9C, .ldaZp 0x9C, .ldaZpx 0x9C, .ldaAbs 0x5E9C, .ldaAbsx 0x5E9C, .ldaAbsy 0x5E9C,
     .ldaIndx 0x9C, .ldaIndy 0x9C, .ldxIm 0x9C, .ldxZp 0x9C, .ldxZpy 0x9C, .ldxAbs 0x5E9C,
     .ldxAbsy 0x5E9C, .ldyIm 0x9C, .ldyZp 0x9C, .ldyZpx 0x9C, .ldyAbs 0x5E9C, .ldyAbsx 0x5E9C] : List Instr).map some := by decide

theorem test_decode_stores :
    ([(16, 0x9C85), (16, 0x9C95), (24, 0x5E9C8D), (24, 0x5E9C9D), (24, 0x5E9C99), (16, 0x9C81),
     (16, 0x9C91), (16, 0x9C86), (16, 0x9C96), (24, 0x5E9C8E), (16, 0x9C84), (16, 0x9C94),
     (24, 0x5E9C8C)] : List (Nat × Nat)).map
      (fun r => decodeTableWord r.1 r.2) =
    ([.staZp 0x9C, .staZpx 0x9C, .staAbs 0x5E9C, .staAbsx 0x5E9C, .staAbsy 0x5E9C, .staIndx 0x9C,
     .staIndy 0x9C, .stxZp 0x9C, .stxZpy 0x9C, .stxAbs 0x5E9C, .styZp 0x9C, .styZpx 0x9C,
     .styAbs 0x5E9C] : List Instr).map some := by decide

theorem test_decode_transfers_and_stack :
    ([(8, 0xAA), (8, 0xA8), (8, 0x8A), (8, 0x98), (8, 0xBA), (8, 0x9A), (8, 0x48), (8, 0x08), (8, 0x68),
     (8, 0x28)] : List (Nat × Nat)).map
      (fun r => decodeTableWord r.1 r.2) =
    ([.tax, .tay, .txa, .tya, .tsx, .txs, .pha, .php, .pla, .plp] : List Instr).map some := by decide

theorem test_decode_logic :
    ([(16, 0x9C29), (16, 0x9C25), (16, 0x9C35), (24, 0x5E9C2D), (24, 0x5E9C3D), (24, 0x5E9C39),
     (16, 0x9C21), (16, 0x9C31), (16, 0x9C09), (16, 0x9C05), (16, 0x9C15), (24, 0x5E9C0D),
     (24, 0x5E9C1D), (24, 0x5E9C19), (16, 0x9C01), (16, 0x9C11), (16, 0x9C49), (16, 0x9C45),
     (16, 0x9C55), (24, 0x5E9C4D), (24, 0x5E9C5D), (24, 0x5E9C59), (16, 0x9C41), (16, 0x9C51),
     (16, 0x9C24), (24, 0x5E9C2C)] : List (Nat × Nat)).map
      (fun r => decodeTableWord r.1 r.2) =
    ([.andIm 0x9C, .andZp 0x9C, .andZpx 0x9C, .andAbs 0x5E9C, .andAbsx 0x5E9C, .andAbsy 0x5E9C,
     .andIndx 0x9C, .andIndy 0x9C, .oraIm 0x9C, .oraZp 0x9C, .oraZpx 0x9C, .oraAbs 0x5E9C,
     .oraAbsx 0x5E9C, .oraAbsy 0x5E9C, .oraIndx 0x9C, .oraIndy 0x9C, .eorIm 0x9C, .eorZp 0x9C,
     .eorZpx 0x9C, .eorAbs 0x5E9C, .eorAbsx 0x5E9C, .eorAbsy 0x5E9C, .eorIndx 0x9C, .eorIndy 0x9C,
     .bitZp 0x9C, .bitAbs 0x5E9C] : List Instr).map some := by decide

theorem test_decode_counts :
    ([(8, 0xE8), (8, 0xC8), (8, 0xCA), (8, 0x88), (16, 0x9CE6), (16, 0x9CF6), (24, 0x5E9CEE),
     (24, 0x5E9CFE), (16, 0x9CC6), (16, 0x9CD6), (24, 0x5E9CCE), (24, 0x5E9CDE)] : List (Nat × Nat)).map
      (fun r => decodeTableWord r.1 r.2) =
    ([.inx, .iny, .dex, .dey, .incZp 0x9C, .incZpx 0x9C, .incAbs 0x5E9C, .incAbsx 0x5E9C, .decZp 0x9C,
     .decZpx 0x9C, .decAbs 0x5E9C, .decAbsx 0x5E9C] : List Instr).map some := by decide

theorem test_decode_sums :
    ([(16, 0x9C69), (16, 0x9C65), (16, 0x9C75), (24, 0x5E9C6D), (24, 0x5E9C7D), (24, 0x5E9C79),
     (16, 0x9C61), (16, 0x9C71), (16, 0x9CE9), (16, 0x9CE5), (16, 0x9CF5), (24, 0x5E9CED),
     (24, 0x5E9CFD), (24, 0x5E9CF9), (16, 0x9CE1), (16, 0x9CF1)] : List (Nat × Nat)).map
      (fun r => decodeTableWord r.1 r.2) =
    ([.adcIm 0x9C, .adcZp 0x9C, .adcZpx 0x9C, .adcAbs 0x5E9C, .adcAbsx 0x5E9C, .adcAbsy 0x5E9C,
     .adcIndx 0x9C, .adcIndy 0x9C, .sbcIm 0x9C, .sbcZp 0x9C, .sbcZpx 0x9C, .sbcAbs 0x5E9C,
     .sbcAbsx 0x5E9C, .sbcAbsy 0x5E9C, .sbcIndx 0x9C, .sbcIndy 0x9C] : List Instr).map some := by decide

theorem test_decode_compares :
    ([(16, 0x9CC9), (16, 0x9CC5), (16, 0x9CD5), (24, 0x5E9CCD), (24, 0x5E9CDD), (24, 0x5E9CD9),
     (16, 0x9CC1), (16, 0x9CD1), (16, 0x9CE0), (16, 0x9CE4), (24, 0x5E9CEC), (16, 0x9CC0),
     (16, 0x9CC4), (24, 0x5E9CCC)] : List (Nat × Nat)).map
      (fun r => decodeTableWord r.1 r.2) =
    ([.cmpIm 0x9C, .cmpZp 0x9C, .cmpZpx 0x9C, .cmpAbs 0x5E9C, .cmpAbsx 0x5E9C, .cmpAbsy 0x5E9C,
     .cmpIndx 0x9C, .cmpIndy 0x9C, .cpxIm 0x9C, .cpxZp 0x9C, .cpxAbs 0x5E9C, .cpyIm 0x9C, .cpyZp 0x9C,
     .cpyAbs 0x5E9C] : List Instr).map some := by decide

theorem test_decode_shifts :
    ([(8, 0x0A), (16, 0x9C06), (16, 0x9C16), (24, 0x5E9C0E), (24, 0x5E9C1E), (8, 0x4A), (16, 0x9C46),
     (16, 0x9C56), (24, 0x5E9C4E), (24, 0x5E9C5E), (8, 0x2A), (16, 0x9C26), (16, 0x9C36),
     (24, 0x5E9C2E), (24, 0x5E9C3E), (8, 0x6A), (16, 0x9C66), (16, 0x9C76), (24, 0x5E9C6E),
     (24, 0x5E9C7E)] : List (Nat × Nat)).map
      (fun r => decodeTableWord r.1 r.2) =
    ([.aslAcc, .aslZp 0x9C, .aslZpx 0x9C, .aslAbs 0x5E9C, .aslAbsx 0x5E9C, .lsrAcc, .lsrZp 0x9C,
     .lsrZpx 0x9C, .lsrAbs 0x5E9C, .lsrAbsx 0x5E9C, .rolAcc, .rolZp 0x9C, .rolZpx 0x9C, .rolAbs 0x5E9C,
     .rolAbsx 0x5E9C, .rorAcc, .rorZp 0x9C, .rorZpx 0x9C, .rorAbs 0x5E9C, .rorAbsx 0x5E9C] : List Instr).map some := by decide

theorem test_decode_jumps_and_branches :
    ([(24, 0x5E9C4C), (24, 0x5E9C6C), (24, 0x5E9C20), (8, 0x60), (16, 0x9C90), (16, 0x9CB0),
     (16, 0x9CF0), (16, 0x9C30), (16, 0x9CD0), (16, 0x9C10), (16, 0x9C50), (16, 0x9C70)] : List (Nat × Nat)).map
      (fun r => decodeTableWord r.1 r.2) =
    ([.jmpAbs 0x5E9C, .jmpInd 0x5E9C, .jsrAbs 0x5E9C, .rts, .bcc 0x9C, .bcs 0x9C, .beq 0x9C, .bmi 0x9C,
     .bne 0x9C, .bpl 0x9C, .bvc 0x9C, .bvs 0x9C] : List Instr).map some := by decide

theorem test_decode_flags_and_traps :
    ([(8, 0x18), (8, 0xD8), (8, 0x58), (8, 0xB8), (8, 0x38), (8, 0xF8), (8, 0x78), (8, 0xEA), (8, 0x00),
     (8, 0x40)] : List (Nat × Nat)).map
      (fun r => decodeTableWord r.1 r.2) =
    ([.clc, .cld, .cli, .clv, .sec, .sed, .sei, .nop, .brk, .rti] : List Instr).map some := by decide

/-- One word of each family written out bit by bit (opcode_table.json, field `encoding`). -/
theorem test_decode_bits :
    decode [0b10111101, 0x34, 0x12] = .ok (.ldaAbsx 0x1234, []) ∧
    decode [0b10010110, 0xF0] = .ok (.stxZpy 0xF0, []) ∧ decode [0b10011010] = .ok (.txs, []) ∧
    decode [0b01000001, 0x20] = .ok (.eorIndx 0x20, []) ∧
    decode [0b11011110, 0xFF, 0x20] = .ok (.decAbsx 0x20FF, []) ∧
    decode [0b11000100, 0x10] = .ok (.cpyZp 0x10, []) ∧ decode [0b01101010] = .ok (.rorAcc, []) ∧
    decode [0b01101100, 0xFF, 0x02] = .ok (.jmpInd 0x02FF, []) ∧ decode [0b01000000] = .ok (.rti, []) :=
  ⟨rfl, rfl, rfl, rfl, rfl, rfl, rfl, rfl, rfl⟩

/-- A word's bits from `nbits` up are 0: an opcode alone decodes with operand bytes of 0. -/
theorem test_decodeTableWord_short : decodeTableWord 8 0x9CA9 = some (.ldaIm 0x00) ∧
    decodeTableWord 8 0x20 = some (.jsrAbs 0x0000) ∧ decodeTableWord 8 0x02 = none := by decide

/-- `withFetchWord` places the instruction where the very next step fetches it. -/
theorem test_withFetchWord : (State.reset.withFetchWord 16 0x42A9).instrAtPc = some (.ldaIm 0x42) := by decide

/-! ### One step, from the vectors of 95_test_vectors.md -/

/-- A core reset at `pc`, the bytes loaded there, the cells and `f`'s fields written by the host. -/
def start (pc : Word) (bytes : List Byte) (cells : List (Word × Byte)) (f : State → State) : State :=
  let s := f (State.resetAt pc)
  { s with mem := (cells.foldl (fun m c => m.write c.1 c.2) s.mem).place pc bytes }

/-- One step from there. -/
def after (pc : Word) (bytes : List Byte) (cells : List (Word × Byte)) (f : State → State) : StepOutcome :=
  step (start pc bytes cells f)

/-- What a step leaves: the registers, pack(P) and the cycles consumed. -/
structure Seen where
  a : Byte
  x : Byte
  y : Byte
  sp : Byte
  pc : Word
  p : Byte
  cycles : Int
  deriving DecidableEq, Repr

/-- What a step leaves, if it answers a next state. -/
def seen : StepOutcome → Option Seen
  | .next t => some ⟨t.a, t.x, t.y, t.sp, t.pc, t.p.pack, -t.cyc⟩
  | .fault _ => none
  | .refused _ => none

/-- What some cells hold after a step. -/
def cellsOf (addrs : List Word) : StepOutcome → List Byte
  | .next t => addrs.map t.mem.read
  | .fault _ => []
  | .refused _ => []

theorem test_V40_2_ldaZpx :
    seen (after 0x0200 [0xB5, 0xF0] [(0x0010, 0x55), (0x0110, 0x99)] (fun s => { s with x := 0x20 })) =
      some ⟨0x55, 0x20, 0x00, 0xFF, 0x0202, 0x00, 4⟩ := by decide

theorem test_V40_4_ldaAbs :
    seen (after 0x0200 [0xAD, 0x34, 0x12] [(0x1234, 0x01)] id) =
      some ⟨0x01, 0x00, 0x00, 0xFF, 0x0203, 0x00, 4⟩ := by decide

theorem test_V40_5_ldaAbsx :
    seen (after 0x0200 [0xBD, 0x00, 0x12] [(0x12FF, 0x05)] (fun s => { s with x := 0xFF })) =
      some ⟨0x05, 0xFF, 0x00, 0xFF, 0x0203, 0x00, 4⟩ := by decide

theorem test_V40_6_ldaAbsx :
    seen (after 0x0200 [0xBD, 0x01, 0x12] [(0x1300, 0x06)] (fun s => { s with x := 0xFF })) =
      some ⟨0x06, 0xFF, 0x00, 0xFF, 0x0203, 0x00, 5⟩ := by decide

theorem test_V40_7_ldaAbsy :
    seen (after 0x0200 [0xB9, 0xFF, 0xFF] [(0x0001, 0x07)] (fun s => { s with y := 0x02 })) =
      some ⟨0x07, 0x00, 0x02, 0xFF, 0x0203, 0x00, 5⟩ := by decide

theorem test_V40_8_staAbsx :
    (fun o => (seen o, cellsOf [0x1201] o))
        (after 0x0200 [0x9D, 0x00, 0x12] [] (fun s => { s with x := 0x01, a := 0xAA })) =
      (some ⟨0xAA, 0x01, 0x00, 0xFF, 0x0203, 0x00, 5⟩, [0xAA]) := by decide

theorem test_V40_9_ldaIndx :
    seen (after 0x0200 [0xA1, 0xFE] [(0x00FF, 0x00), (0x0000, 0x20), (0x2000, 0x44)] (fun s => { s with x := 0x01 })) =
      some ⟨0x44, 0x01, 0x00, 0xFF, 0x0202, 0x00, 6⟩ := by decide

theorem test_V40_10_ldaIndx :
    seen (after 0x0200 [0xA1, 0x10] [(0x0015, 0x34), (0x0016, 0x12), (0x1234, 0x66)] (fun s => { s with x := 0x05 })) =
      some ⟨0x66, 0x05, 0x00, 0xFF, 0x0202, 0x00, 6⟩ := by decide

theorem test_V40_11_ldaIndy :
    seen (after 0x0200 [0xB1, 0x20] [(0x0020, 0x00), (0x0021, 0x10), (0x1001, 0x77)] (fun s => { s with y := 0x01 })) =
      some ⟨0x77, 0x00, 0x01, 0xFF, 0x0202, 0x00, 5⟩ := by decide

theorem test_V40_12_ldaIndy :
    seen (after 0x0200 [0xB1, 0xFF] [(0x00FF, 0x00), (0x0000, 0x30), (0x3000, 0x88)] (fun s => { s with y := 0x00 })) =
      some ⟨0x88, 0x00, 0x00, 0xFF, 0x0202, 0x80, 5⟩ := by decide

theorem test_V40_13_staIndy :
    (fun o => (seen o, cellsOf [0x1001] o))
        (after 0x0200 [0x91, 0x20] [(0x0020, 0x00), (0x0021, 0x10)] (fun s => { s with y := 0x01, a := 0x5A })) =
      (some ⟨0x5A, 0x00, 0x01, 0xFF, 0x0202, 0x00, 6⟩, [0x5A]) := by decide

theorem test_V40_14_jmpInd :
    seen (after 0x0200 [0x6C, 0xFF, 0x10] [(0x10FF, 0x34), (0x1100, 0x12), (0x1000, 0x56)] id) =
      some ⟨0x00, 0x00, 0x00, 0xFF, 0x1234, 0x00, 5⟩ := by decide

theorem test_V40_15_jmpInd :
    seen (after 0x0200 [0x6C, 0xFF, 0x10] [(0x10FF, 0x34), (0x1100, 0x12), (0x1000, 0x56)] (fun s => { s with cfg := { s.cfg with jmpIndPageWrap := true } })) =
      some ⟨0x00, 0x00, 0x00, 0xFF, 0x5634, 0x00, 5⟩ := by decide

theorem test_V40_16_ldaIm :
    seen (after 0xFFFF [0xA9, 0xFF] [] id) =
      some ⟨0xFF, 0x00, 0x00, 0xFF, 0x0001, 0x80, 2⟩ := by decide

theorem test_V41_4_adcIm :
    seen (after 0x0200 [0x69, 0x7F] [] (fun s => { s with a := 0x00, p := { s.p with c := true } })) =
      some ⟨0x80, 0x00, 0x00, 0xFF, 0x0202, 0xC0, 2⟩ := by decide

theorem test_V41_5_adcIm :
    seen (after 0x0200 [0x69, 0x09] [] (fun s => { s with a := 0x09, p := { s.p with d := true } })) =
      some ⟨0x12, 0x00, 0x00, 0xFF, 0x0202, 0x08, 2⟩ := by decide

theorem test_V41_7_sbcIm :
    seen (after 0x0200 [0xE9, 0x01] [] (fun s => { s with a := 0x80, p := { s.p with c := true } })) =
      some ⟨0x7F, 0x00, 0x00, 0xFF, 0x0202, 0x41, 2⟩ := by decide

theorem test_V41_10_cmpIm :
    seen (after 0x0200 [0xC9, 0x11] [] (fun s => { s with a := 0x10 })) =
      some ⟨0x10, 0x00, 0x00, 0xFF, 0x0202, 0x80, 2⟩ := by decide

theorem test_V41_11_cmpIm :
    seen (after 0x0200 [0xC9, 0x01] [] (fun s => { s with a := 0x90 })) =
      some ⟨0x90, 0x00, 0x00, 0xFF, 0x0202, 0x81, 2⟩ := by decide

theorem test_V42_2_ldaIm :
    seen (after 0x0200 [0xA9, 0x80] [] (fun s => { s with p := { s.p with z := true } })) =
      some ⟨0x80, 0x00, 0x00, 0xFF, 0x0202, 0x80, 2⟩ := by decide

theorem test_V42_3_ldxIm :
    seen (after 0x0200 [0xA2, 0x01] [] id) =
      some ⟨0x00, 0x01, 0x00, 0xFF, 0x0202, 0x00, 2⟩ := by decide

theorem test_V42_4_ldxAbsy :
    seen (after 0x0200 [0xBE, 0xF0, 0x12] [(0x1310, 0xFE)] (fun s => { s with y := 0x20 })) =
      some ⟨0x00, 0xFE, 0x20, 0xFF, 0x0203, 0x80, 5⟩ := by decide

theorem test_V42_5_ldyIm :
    seen (after 0x0200 [0xA0, 0x7F] [] id) =
      some ⟨0x00, 0x00, 0x7F, 0xFF, 0x0202, 0x00, 2⟩ := by decide

theorem test_V42_6_ldyZpx :
    seen (after 0x0200 [0xB4, 0x80] [(0x0010, 0x00)] (fun s => { s with x := 0x90 })) =
      some ⟨0x00, 0x90, 0x00, 0xFF, 0x0202, 0x02, 4⟩ := by decide

theorem test_V42_7_staZp :
    seen (after 0x0200 [0x85, 0x10] [] (fun s => { s with a := 0x00, p := { s.p with n := true } })) =
      some ⟨0x00, 0x00, 0x00, 0xFF, 0x0202, 0x80, 3⟩ := by decide

theorem test_V42_8_staIndx :
    (fun o => (seen o, cellsOf [0x3000] o))
        (after 0x0200 [0x81, 0x10] [(0x0012, 0x00), (0x0013, 0x30)] (fun s => { s with a := 0x42, x := 0x02 })) =
      (some ⟨0x42, 0x02, 0x00, 0xFF, 0x0202, 0x00, 6⟩, [0x42]) := by decide

theorem test_V42_9_stxZpy :
    (fun o => (seen o, cellsOf [0x0002] o))
        (after 0x0200 [0x96, 0xFF] [] (fun s => { s with x := 0x99, y := 0x03 })) =
      (some ⟨0x00, 0x99, 0x03, 0xFF, 0x0202, 0x00, 4⟩, [0x99]) := by decide

theorem test_V42_10_styAbs :
    (fun o => (seen o, cellsOf [0x0400] o))
        (after 0x0200 [0x8C, 0x00, 0x04] [] (fun s => { s with y := 0x88 })) =
      (some ⟨0x00, 0x00, 0x88, 0xFF, 0x0203, 0x00, 4⟩, [0x88]) := by decide

theorem test_V43_1_tax :
    seen (after 0x0200 [0xAA] [] (fun s => { s with a := 0x80 })) =
      some ⟨0x80, 0x80, 0x00, 0xFF, 0x0201, 0x80, 2⟩ := by decide

theorem test_V43_2_tay :
    seen (after 0x0200 [0xA8] [] (fun s => { s with a := 0x00, y := 0x05 })) =
      some ⟨0x00, 0x00, 0x00, 0xFF, 0x0201, 0x02, 2⟩ := by decide

theorem test_V43_3_txa :
    seen (after 0x0200 [0x8A] [] (fun s => { s with x := 0x01, a := 0x00 })) =
      some ⟨0x01, 0x01, 0x00, 0xFF, 0x0201, 0x00, 2⟩ := by decide

theorem test_V43_4_tya :
    seen (after 0x0200 [0x98] [] (fun s => { s with y := 0xFF })) =
      some ⟨0xFF, 0x00, 0xFF, 0xFF, 0x0201, 0x80, 2⟩ := by decide

theorem test_V43_5_tsx :
    seen (after 0x0200 [0xBA] [] id) =
      some ⟨0x00, 0xFF, 0x00, 0xFF, 0x0201, 0x80, 2⟩ := by decide

theorem test_V43_6_txs :
    seen (after 0x0200 [0x9A] [] (fun s => { s with x := 0x00, p := { s.p with z := false, n := true } })) =
      some ⟨0x00, 0x00, 0x00, 0x00, 0x0201, 0x80, 2⟩ := by decide

theorem test_V43_7_pha :
    (fun o => (seen o, cellsOf [0x01FF] o))
        (after 0x0200 [0x48] [] (fun s => { s with a := 0x37 })) =
      (some ⟨0x37, 0x00, 0x00, 0xFE, 0x0201, 0x00, 2⟩, [0x37]) := by decide

theorem test_V43_8_pha :
    (fun o => (seen o, cellsOf [0x0100] o))
        (after 0x0200 [0x48] [] (fun s => { s with a := 0x37, sp := 0x00 })) =
      (some ⟨0x37, 0x00, 0x00, 0xFF, 0x0201, 0x00, 2⟩, [0x37]) := by decide

theorem test_V43_9_php :
    (fun o => (seen o, cellsOf [0x01FF] o))
        (after 0x0200 [0x08] [] (fun s => { s with p := { s.p with c := true, n := true } })) =
      (some ⟨0x00, 0x00, 0x00, 0xFE, 0x0201, 0x81, 2⟩, [0xB1]) := by decide

theorem test_V43_11_pla :
    seen (after 0x0200 [0x68] [(0x0100, 0x80)] (fun s => { s with sp := 0xFF })) =
      some ⟨0x80, 0x00, 0x00, 0x00, 0x0201, 0x80, 3⟩ := by decide

theorem test_V43_12_plp :
    seen (after 0x0200 [0x28] [(0x01FF, 0xFF)] (fun s => { s with sp := 0xFE })) =
      some ⟨0x00, 0x00, 0x00, 0xFF, 0x0201, 0xCF, 3⟩ := by decide

theorem test_V44_1_andIm :
    seen (after 0x0200 [0x29, 0x0F] [] (fun s => { s with a := 0xF0 })) =
      some ⟨0x00, 0x00, 0x00, 0xFF, 0x0202, 0x02, 2⟩ := by decide

theorem test_V44_2_oraIm :
    seen (after 0x0200 [0x09, 0x80] [] (fun s => { s with a := 0x01 })) =
      some ⟨0x81, 0x00, 0x00, 0xFF, 0x0202, 0x80, 2⟩ := by decide

theorem test_V44_3_eorIm :
    seen (after 0x0200 [0x49, 0xFF] [] (fun s => { s with a := 0xFF })) =
      some ⟨0x00, 0x00, 0x00, 0xFF, 0x0202, 0x02, 2⟩ := by decide

theorem test_V44_4_bitZp :
    seen (after 0x0200 [0x24, 0x10] [(0x0010, 0xC0)] (fun s => { s with a := 0x01 })) =
      some ⟨0x01, 0x00, 0x00, 0xFF, 0x0202, 0xC2, 3⟩ := by decide

theorem test_V44_5_bitAbs :
    seen (after 0x0200 [0x2C, 0x00, 0x12] [(0x1200, 0x01)] (fun s => { s with a := 0xFF, p := { s.p with n := true, v := true, z := true } })) =
      some ⟨0xFF, 0x00, 0x00, 0xFF, 0x0203, 0x00, 4⟩ := by decide

theorem test_V45_1_inx :
    seen (after 0x0200 [0xE8] [] (fun s => { s with x := 0xFF })) =
      some ⟨0x00, 0x00, 0x00, 0xFF, 0x0201, 0x02, 2⟩ := by decide

theorem test_V45_2_iny :
    seen (after 0x0200 [0xC8] [] (fun s => { s with y := 0x7F })) =
      some ⟨0x00, 0x00, 0x80, 0xFF, 0x0201, 0x80, 2⟩ := by decide

theorem test_V45_3_dex :
    seen (after 0x0200 [0xCA] [] (fun s => { s with x := 0x00 })) =
      some ⟨0x00, 0xFF, 0x00, 0xFF, 0x0201, 0x80, 2⟩ := by decide

theorem test_V45_4_dey :
    seen (after 0x0200 [0x88] [] (fun s => { s with y := 0x01 })) =
      some ⟨0x00, 0x00, 0x00, 0xFF, 0x0201, 0x02, 2⟩ := by decide

theorem test_V45_5_incZp :
    (fun o => (seen o, cellsOf [0x0010] o))
        (after 0x0200 [0xE6, 0x10] [(0x0010, 0xFF)] id) =
      (some ⟨0x00, 0x00, 0x00, 0xFF, 0x0202, 0x02, 5⟩, [0x00]) := by decide

theorem test_V45_6_incAbsx :
    (fun o => (seen o, cellsOf [0x1201] o))
        (after 0x0200 [0xFE, 0x00, 0x12] [(0x1201, 0x7F)] (fun s => { s with x := 0x01 })) =
      (some ⟨0x00, 0x01, 0x00, 0xFF, 0x0203, 0x80, 7⟩, [0x80]) := by decide

theorem test_V45_7_decZp :
    (fun o => (seen o, cellsOf [0x0010] o))
        (after 0x0200 [0xC6, 0x10] [(0x0010, 0x00)] id) =
      (some ⟨0x00, 0x00, 0x00, 0xFF, 0x0202, 0x80, 5⟩, [0xFF]) := by decide

theorem test_V45_8_decZpx :
    (fun o => (seen o, cellsOf [0x0001] o))
        (after 0x0200 [0xD6, 0xFF] [(0x0001, 0x01)] (fun s => { s with x := 0x02 })) =
      (some ⟨0x00, 0x02, 0x00, 0xFF, 0x0202, 0x02, 6⟩, [0x00]) := by decide

theorem test_V46_1_adcZp :
    seen (after 0x0200 [0x65, 0x10] [(0x0010, 0x50)] (fun s => { s with a := 0x50 })) =
      some ⟨0xA0, 0x00, 0x00, 0xFF, 0x0202, 0xC0, 3⟩ := by decide

theorem test_V46_2_adcAbsx :
    seen (after 0x0200 [0x7D, 0xFF, 0x10] [(0x1100, 0x01)] (fun s => { s with a := 0x01, x := 0x01, p := { s.p with c := true } })) =
      some ⟨0x03, 0x01, 0x00, 0xFF, 0x0203, 0x00, 5⟩ := by decide

theorem test_V46_3_sbcIm :
    seen (after 0x0200 [0xE9, 0x80] [] (fun s => { s with a := 0x7F, p := { s.p with c := true } })) =
      some ⟨0xFF, 0x00, 0x00, 0xFF, 0x0202, 0xC0, 2⟩ := by decide

theorem test_V46_5_cmpIndy :
    seen (after 0x0200 [0xD1, 0x20] [(0x0020, 0xF8), (0x0021, 0x10), (0x1108, 0x40)] (fun s => { s with a := 0x40, y := 0x10 })) =
      some ⟨0x40, 0x00, 0x10, 0xFF, 0x0202, 0x03, 6⟩ := by decide

theorem test_V46_6_cpxIm :
    seen (after 0x0200 [0xE0, 0x00] [] (fun s => { s with x := 0x00 })) =
      some ⟨0x00, 0x00, 0x00, 0xFF, 0x0202, 0x03, 2⟩ := by decide

theorem test_V46_7_cpxAbs :
    seen (after 0x0200 [0xEC, 0x00, 0x12] [(0x1200, 0x02)] (fun s => { s with x := 0x01 })) =
      some ⟨0x00, 0x01, 0x00, 0xFF, 0x0203, 0x80, 4⟩ := by decide

theorem test_V46_8_cpyZp :
    seen (after 0x0200 [0xC4, 0x10] [(0x0010, 0x00)] (fun s => { s with y := 0xFF })) =
      some ⟨0x00, 0x00, 0xFF, 0xFF, 0x0202, 0x81, 3⟩ := by decide

theorem test_V47_1_aslAcc :
    seen (after 0x0200 [0x0A] [] (fun s => { s with a := 0x81 })) =
      some ⟨0x02, 0x00, 0x00, 0xFF, 0x0201, 0x01, 2⟩ := by decide

theorem test_V47_2_aslZp :
    (fun o => (seen o, cellsOf [0x0010] o))
        (after 0x0200 [0x06, 0x10] [(0x0010, 0x80)] id) =
      (some ⟨0x00, 0x00, 0x00, 0xFF, 0x0202, 0x03, 5⟩, [0x00]) := by decide

theorem test_V47_3_lsrAcc :
    seen (after 0x0200 [0x4A] [] (fun s => { s with a := 0x01 })) =
      some ⟨0x00, 0x00, 0x00, 0xFF, 0x0201, 0x03, 2⟩ := by decide

theorem test_V47_4_lsrAbsx :
    (fun o => (seen o, cellsOf [0x1205] o))
        (after 0x0200 [0x5E, 0x00, 0x12] [(0x1205, 0xFF)] (fun s => { s with x := 0x05 })) =
      (some ⟨0x00, 0x05, 0x00, 0xFF, 0x0203, 0x01, 7⟩, [0x7F]) := by decide

theorem test_V47_5_rolAcc :
    seen (after 0x0200 [0x2A] [] (fun s => { s with a := 0x80, p := { s.p with c := true } })) =
      some ⟨0x01, 0x00, 0x00, 0xFF, 0x0201, 0x01, 2⟩ := by decide

theorem test_V47_6_rolAbs :
    (fun o => (seen o, cellsOf [0x1200] o))
        (after 0x0200 [0x2E, 0x00, 0x12] [(0x1200, 0x40)] id) =
      (some ⟨0x00, 0x00, 0x00, 0xFF, 0x0203, 0x80, 6⟩, [0x80]) := by decide

theorem test_V47_7_rorAcc :
    seen (after 0x0200 [0x6A] [] (fun s => { s with a := 0x01, p := { s.p with c := true } })) =
      some ⟨0x80, 0x00, 0x00, 0xFF, 0x0201, 0x81, 2⟩ := by decide

theorem test_V47_8_rorZpx :
    (fun o => (seen o, cellsOf [0x0011] o))
        (after 0x0200 [0x76, 0x10] [(0x0011, 0x02)] (fun s => { s with x := 0x01 })) =
      (some ⟨0x00, 0x01, 0x00, 0xFF, 0x0202, 0x00, 6⟩, [0x01]) := by decide

theorem test_V48_1_jmpAbs :
    seen (after 0x0200 [0x4C, 0x00, 0x30] [] id) =
      some ⟨0x00, 0x00, 0x00, 0xFF, 0x3000, 0x00, 3⟩ := by decide

theorem test_V48_2_jsrAbs :
    (fun o => (seen o, cellsOf [0x01FE, 0x01FF] o))
        (after 0x0200 [0x20, 0x00, 0x30] [] id) =
      (some ⟨0x00, 0x00, 0x00, 0xFD, 0x3000, 0x00, 6⟩, [0x02, 0x02]) := by decide

theorem test_V48_3_rts :
    seen (after 0x0200 [0x60] [(0x01FE, 0x02), (0x01FF, 0x03)] (fun s => { s with sp := 0xFD })) =
      some ⟨0x00, 0x00, 0x00, 0xFF, 0x0303, 0x00, 5⟩ := by decide

theorem test_V48_4_rts :
    seen (after 0x0200 [0x60] [(0x0100, 0xFF), (0x0101, 0xFF)] (fun s => { s with sp := 0xFF })) =
      some ⟨0x00, 0x00, 0x00, 0x01, 0x0000, 0x00, 5⟩ := by decide

theorem test_V48_5_bcc :
    seen (after 0x0200 [0x90, 0x05] [] (fun s => { s with p := { s.p with c := false } })) =
      some ⟨0x00, 0x00, 0x00, 0xFF, 0x0207, 0x00, 3⟩ := by decide

theorem test_V48_6_bcs :
    seen (after 0x0200 [0xB0, 0x05] [] (fun s => { s with p := { s.p with c := false } })) =
      some ⟨0x00, 0x00, 0x00, 0xFF, 0x0202, 0x00, 2⟩ := by decide

theorem test_V48_7_beq :
    seen (after 0x0200 [0xF0, 0xFC] [] (fun s => { s with p := { s.p with z := true } })) =
      some ⟨0x00, 0x00, 0x00, 0xFF, 0x01FE, 0x02, 4⟩ := by decide

theorem test_V48_8_bmi :
    seen (after 0x0200 [0x30, 0x80] [] (fun s => { s with p := { s.p with n := true } })) =
      some ⟨0x00, 0x00, 0x00, 0xFF, 0x0182, 0x80, 4⟩ := by decide

theorem test_V48_9_bne :
    seen (after 0x0200 [0xD0, 0x7F] [] (fun s => { s with p := { s.p with z := false } })) =
      some ⟨0x00, 0x00, 0x00, 0xFF, 0x0281, 0x00, 3⟩ := by decide

theorem test_V48_10_bpl :
    seen (after 0x0200 [0x10, 0x00] [] (fun s => { s with p := { s.p with n := false } })) =
      some ⟨0x00, 0x00, 0x00, 0xFF, 0x0202, 0x00, 3⟩ := by decide

theorem test_V48_11_bvc :
    seen (after 0xFFFC [0x50, 0x02] [] (fun s => { s with p := { s.p with v := false } })) =
      some ⟨0x00, 0x00, 0x00, 0xFF, 0x0000, 0x00, 4⟩ := by decide

theorem test_V48_12_bvs :
    seen (after 0x0200 [0x70, 0x10] [] (fun s => { s with p := { s.p with v := true } })) =
      some ⟨0x00, 0x00, 0x00, 0xFF, 0x0212, 0x40, 3⟩ := by decide

theorem test_V49_1_clc :
    seen (after 0x0200 [0x18] [] (fun s => { s with p := { s.p with c := true } })) =
      some ⟨0x00, 0x00, 0x00, 0xFF, 0x0201, 0x00, 2⟩ := by decide

theorem test_V49_2_cld :
    seen (after 0x0200 [0xD8] [] (fun s => { s with p := { s.p with d := true } })) =
      some ⟨0x00, 0x00, 0x00, 0xFF, 0x0201, 0x00, 2⟩ := by decide

theorem test_V49_3_cli :
    seen (after 0x0200 [0x58] [] (fun s => { s with p := { s.p with i := true } })) =
      some ⟨0x00, 0x00, 0x00, 0xFF, 0x0201, 0x00, 2⟩ := by decide

theorem test_V49_4_clv :
    seen (after 0x0200 [0xB8] [] (fun s => { s with p := { s.p with v := true } })) =
      some ⟨0x00, 0x00, 0x00, 0xFF, 0x0201, 0x00, 2⟩ := by decide

theorem test_V49_5_sec :
    seen (after 0x0200 [0x38] [] id) =
      some ⟨0x00, 0x00, 0x00, 0xFF, 0x0201, 0x01, 2⟩ := by decide

theorem test_V49_6_sed :
    seen (after 0x0200 [0xF8] [] id) =
      some ⟨0x00, 0x00, 0x00, 0xFF, 0x0201, 0x08, 2⟩ := by decide

theorem test_V49_7_sei :
    seen (after 0x0200 [0x78] [] id) =
      some ⟨0x00, 0x00, 0x00, 0xFF, 0x0201, 0x04, 2⟩ := by decide

theorem test_V49_8_nop :
    seen (after 0x0200 [0xEA] [] id) =
      some ⟨0x00, 0x00, 0x00, 0xFF, 0x0201, 0x00, 2⟩ := by decide

theorem test_V49_9_brk :
    (fun o => (seen o, cellsOf [0x01FD, 0x01FE, 0x01FF] o))
        (after 0x0200 [0x00] [(0xFFFE, 0x00), (0xFFFF, 0x30)] (fun s => { s with p := { s.p with c := true, d := true } })) =
      (some ⟨0x00, 0x00, 0x00, 0xFC, 0x3000, 0x1D, 6⟩, [0x39, 0x02, 0x02]) := by decide

theorem test_V49_10_brk :
    (fun o => (seen o, cellsOf [0x0100, 0x0101, 0x01FF] o))
        (after 0x0200 [0x00] [(0xFFFE, 0x00), (0xFFFF, 0x30)] (fun s => { s with sp := 0x01 })) =
      (some ⟨0x00, 0x00, 0x00, 0xFE, 0x3000, 0x14, 6⟩, [0x02, 0x02, 0x30]) := by decide

theorem test_V49_11_rti :
    seen (after 0x0200 [0x40] [(0x01FD, 0xFF), (0x01FE, 0x34), (0x01FF, 0x12)] (fun s => { s with sp := 0xFC })) =
      some ⟨0x00, 0x00, 0x00, 0xFF, 0x1234, 0xCF, 4⟩ := by decide

/-- The costs that CYCLE_TABLE = nmos changes (R382): PHA, PHP, PLA, PLP, RTS, BRK, RTI; LDA keeps its 2. -/
theorem test_nmos_costs :
    ([0x48, 0x08, 0x68, 0x28, 0x60, 0x00, 0x40, 0xA9] : List Byte).map (fun op =>
      (seen (after 0x0200 [op] [] (fun s => { s with cfg := ⟨false, .nmos⟩ }))).map Seen.cycles) =
    [some 3, some 3, some 4, some 4, some 6, some 7, some 6, some 2] := by decide

/-- V60.1 and V60.2: the outcome, and the state that rule R341 leaves. -/
theorem test_V60_faults :
    after 0x0200 [0x02] [] id = .fault (.decodeError 0x02 0x0200) ∧
    after 0x0200 [0xFF] [] (fun s => { s with a := 0x12 }) = .fault (.decodeError 0xFF 0x0200) ∧
    ((start 0x0200 [0x02] [] id).raiseDecodeError 0x02 0x0200).pc = 0x0201 := ⟨rfl, rfl, rfl⟩

/-! ### The host's vectors (95_test_vectors.md, part 3) -/

theorem test_X1_X2_no_budget :
    ((start 0x1000 [0xA9, 0x01] [] id).execute 0).1 = .ok 0 ∧
    ((start 0x1000 [0xA9, 0x01] [] id).execute (-3)).1 = .ok 0 ∧
    ((start 0x1000 [0xA9, 0x01] [] id).execute 0).2.pc = 0x1000 := by decide

theorem test_X3_largest_overshoot :
    let r := (start 0x1000 [0xFE, 0x00, 0x12] [] id).execute 1
    (r.1, r.2.pc, r.2.mem.read 0x1200) = (.ok 7, 0x1003, 0x01) := by decide

theorem test_X5_two_calls :
    let r := (start 0x1000 [0xA9, 0x01, 0xA9, 0x02, 0xA9, 0x03] [] id).execute 3
    let q := r.2.execute 1
    (r.1, r.2.a, r.2.pc, q.1, q.2.a, q.2.pc) = (.ok 4, 0x02, 0x1004, .ok 2, 0x03, 0x1006) := by decide

theorem test_X7_X8_fault_then_refused :
    let r := (start 0x1000 [0xA9, 0x05, 0x02] [] id).execute 10
    (r.1, r.2.a, r.2.pc, r.2.runState, (r.2.execute 10).1) =
      (.decodeError 0x02 0x1002, 0x05, 0x1003, .faulted 0x02 0x1002, .refused) := by decide

theorem test_X9_reset_after_fault :
    let r := (((start 0x1000 [0xA9, 0x05, 0x02] [] id).execute 10).2.hostReset 0x1000).execute 2
    (r.1, r.2.pc, r.2.sp) = (.ok 6, 0x0000, 0xFC) := by decide

theorem test_X10_never_reset :
    (({ State.reset with runState := .uninitialised } : State).execute 5).1 = .refused ∧
    ({ State.reset with runState := .uninitialised } : State).hostRead .a = none := by decide

theorem test_X11_brk_from_reset :
    let r := State.reset.execute 7
    (r.1, r.2.pc, r.2.sp, r.2.p.pack) = (.ok 12, 0x0000, 0xF9, 0x14) ∧
      [0x01FA, 0x01FB, 0x01FC, 0x01FD, 0x01FE, 0x01FF].map r.2.mem.read =
        [0x34, 0x02, 0x00, 0x30, 0x02, 0x00] := by decide

theorem test_X14_decimal_notice :
    let r := (start 0x0200 [0x69, 0x01, 0x69, 0x01] []
      (fun s => { s with p := { s.p with d := true } })).execute 4
    (r.1, r.2.a, r.2.decNotice) = (.ok 4, 0x02, true) := by decide

/-- The load address is the image's first two bytes, low byte first, and the bytes wrap past 0xFFFF (R373). -/
theorem test_load_wraps :
    (State.reset.load [0xFF, 0xFF, 0x11, 0x22]).map
      (fun r => (r.1, r.2.mem.read 0xFFFF, r.2.mem.read 0x0000)) = some (0xFFFF, 0x11, 0x22) := by decide

/-! ### Witnesses: what meets the hypotheses of a statement, clause by clause

A statement that holds of every state and instruction, or of every operand of a named shape, has no
hypothesis and no witness here. -/

/-- A ready core with a CMP #$10 at the top of memory, some cells, and mixed registers and flags. -/
def sample : State :=
  start 0xFFFF [0xC9, 0x10] [(0x00FF, 0x34), (0x0180, 0x77), (0x0300, 0x80)] fun s =>
    { s with a := 0x90, x := 0x05, y := 0xFF, sp := 0x00, p := { s.p with c := true, d := true } }

theorem witness_DecodedBytesEncodeBack :
    decode [0xBD, 0x34, 0x12, 0x60] = .ok (.ldaAbsx 0x1234, [0x60]) := rfl

theorem witness_ExactlyWellFormedBytesDecode :
    wellFormedBytes [0x6C, 0xFF, 0x02] = true ∧ decode [0x6C, 0xFF, 0x02] = .ok (.jmpInd 0x02FF, []) :=
  ⟨rfl, rfl⟩

/-- PC at 0xFFFF, the operand at 0x0000. -/
theorem witness_StepRunsTheDecodedInstruction :
    sample.runState = .ready ∧
    decode [sample.mem.read sample.pc, sample.mem.read (sample.pc + 1), sample.mem.read (sample.pc + 2)] =
      .ok (.cmpIm 0x10, [0x00]) := ⟨rfl, rfl⟩

/-- The least and the greatest undefined and defined opcode bytes, and both ways not to be ready. -/
theorem witness_StepOutcomesAreExactlyThree :
    (∀ op ∈ ([0x02, 0xFF] : List Byte), (start 0xFFFF [op] [] id).runState = .ready ∧
      (start 0xFFFF [op] [] id).mem.read (start 0xFFFF [op] [] id).pc ∈ undefinedOpcodes) ∧
    (∀ op ∈ ([0x00, 0xFE] : List Byte), (start 0xFFFF [op] [] id).runState = .ready ∧
      (start 0xFFFF [op] [] id).mem.read (start 0xFFFF [op] [] id).pc ∉ undefinedOpcodes) ∧
    ({ sample with runState := .uninitialised } : State).runState ≠ .ready ∧
    ({ sample with runState := .faulted 0x02 0x0200 } : State).runState ≠ .ready := by decide

/-- A step that stores to memory from a sound state. -/
theorem witness_StepKeepsSoundness :
    ∃ t, (start 0x0200 [0x91, 0x20] [(0x0020, 0xFF), (0x0021, 0x10)] id).Sound ∧
      step (start 0x0200 [0x91, 0x20] [(0x0020, 0xFF), (0x0021, 0x10)] id) = .next t :=
  ⟨_, ⟨by decide, rfl⟩, rfl⟩

theorem witness_HostMovesKeepSoundness : sample.Sound := ⟨by decide, rfl⟩

/-- STA writes none of A, X and Y; a shift of memory does not write A. -/
theorem witness_OnlyListedInstructionsWriteAXY :
    ((Instr.rolZp 0xFF).mnemonic ∉ [Mnemonic.lda, .txa, .tya, .pla, .and, .ora, .eor, .adc, .sbc] ∧
      Instr.rolZp 0xFF ∉ [Instr.aslAcc, .lsrAcc, .rolAcc, .rorAcc]) ∧
    (Instr.staZp 0xFF).mnemonic ∉ [Mnemonic.ldx, .tax, .tsx, .inx, .dex] ∧
    (Instr.staZp 0xFF).mnemonic ∉ [Mnemonic.ldy, .tay, .iny, .dey] := by decide

/-- INC for C and V, TXS for Z and N. -/
theorem witness_OnlyListedInstructionsWriteCZNV :
    (Instr.incZp 0).mnemonic ∉
      [Mnemonic.adc, .sbc, .cmp, .cpx, .cpy, .asl, .lsr, .rol, .ror, .clc, .sec, .plp, .rti] ∧
    Instr.txs.mnemonic ∉ [Mnemonic.lda, .ldx, .ldy, .tax, .tay, .txa, .tya, .tsx, .pla, .and, .ora, .eor,
      .inx, .iny, .dex, .dey, .inc, .dec, .adc, .sbc, .asl, .lsr, .rol, .ror, .cmp, .cpx, .cpy, .bit, .plp,
      .rti] ∧
    (Instr.incZp 0).mnemonic ∉ [Mnemonic.adc, .sbc, .bit, .clv, .plp, .rti] := by decide

/-- PHP writes none of I, D, B and U; each writer is in its clause. -/
theorem witness_OnlyListedInstructionsWriteIDBU :
    Instr.php.mnemonic ∉ [Mnemonic.sei, .cli, .brk, .plp, .rti] ∧
    Instr.php.mnemonic ∉ [Mnemonic.sed, .cld, .plp, .rti] ∧
    Instr.php.mnemonic ∉ [Mnemonic.brk, .plp, .rti] ∧ Instr.php.mnemonic ∉ [Mnemonic.plp, .rti] ∧
    Instr.sei.mnemonic ∈ [Mnemonic.sei, .brk] ∧ Instr.brk.mnemonic ∈ [Mnemonic.sei, .brk] ∧
    Instr.cli.mnemonic = .cli ∧ Instr.sed.mnemonic = .sed ∧ Instr.cld.mnemonic = .cld ∧
    Instr.brk.mnemonic = .brk ∧ Instr.plp.mnemonic ∈ [Mnemonic.plp, .rti] ∧
    Instr.rti.mnemonic ∈ [Mnemonic.plp, .rti] := by decide

/-- A load, and the ACC form of a shift. -/
theorem witness_OnlyStoringInstructionsChangeMemory :
    (Instr.ldaAbs 0xFFFF).mnemonic ∉
      [Mnemonic.sta, .stx, .sty, .inc, .dec, .asl, .lsr, .rol, .ror, .pha, .php, .jsr, .brk] ∧
    Instr.aslAcc.mode = .acc := by decide

/-- A form of each of the nine instructions at the top of its address range, and an address beside it. -/
theorem witness_StoresChangeOnlyTheirCell :
    staForm ∈ storeForms ∧ staForm (.absx 0xFFFF) = some (.staAbsx 0xFFFF) ∧
    stxForm ∈ storeForms ∧ stxForm (.zpy 0xFF) = some (.stxZpy 0xFF) ∧
    styForm ∈ storeForms ∧ styForm (.zpx 0xFF) = some (.styZpx 0xFF) ∧
    incForm ∈ storeForms ∧ incForm (.abs 0xFFFF) = some (.incAbs 0xFFFF) ∧
    decForm ∈ storeForms ∧ decForm (.zp 0xFF) = some (.decZp 0xFF) ∧
    aslForm ∈ storeForms ∧ aslForm (.zp 0xFF) = some (.aslZp 0xFF) ∧
    lsrForm ∈ storeForms ∧ lsrForm (.zp 0xFF) = some (.lsrZp 0xFF) ∧
    rolForm ∈ storeForms ∧ rolForm (.zp 0xFF) = some (.rolZp 0xFF) ∧
    rorForm ∈ storeForms ∧ rorForm (.zp 0xFF) = some (.rorZp 0xFF) ∧
    (0xFFFF : Word) ≠ (effectiveAddress .always (.absx 0xFFFF) sample).1 := by
  refine ⟨?_, rfl, ?_, rfl, ?_, rfl, ?_, rfl, ?_, rfl, ?_, rfl, ?_, rfl, ?_, rfl, ?_, rfl, by decide⟩ <;>
    simp [storeForms]

/-- SP = 0x00: the three cells of BRK are 0x0100, 0x01FF and 0x01FE, and 0x0101 is none of them. -/
theorem witness_PushesChangeOnlyTheirStackCells :
    (0x0101 : Word) ≠ sample.stackAddr 0 ∧ (0x0101 : Word) ≠ sample.stackAddr (-1) ∧
    (0x0101 : Word) ≠ sample.stackAddr (-2) := by decide

theorem witness_ProgramCounterPassesTheInstruction :
    sample.runState = .ready ∧ sample.instrAtPc = some (.cmpIm 0x10) ∧
    (Instr.cmpIm 0x10).mnemonic ∉ transfers := by decide

theorem witness_DecimalFlagChangesNoResult :
    (Instr.adcIm 0x09).mnemonic ∈ [Mnemonic.adc, .sbc] ∧ (Instr.sbcIndy 0xFF).mnemonic ∈ [Mnemonic.adc, .sbc] := by
  decide

/-- Forms of the loads, logic, arithmetic and compares, each clause once. -/
theorem witness_read_forms :
    ldaForm (.mem (.indy 0xFF)) = some (.ldaIndy 0xFF) ∧ ldxForm (.mem (.absy 0xFFFF)) = some (.ldxAbsy 0xFFFF) ∧
    ldyForm (.im 0x00) = some (.ldyIm 0x00) ∧ andForm (.mem (.indx 0xFF)) = some (.andIndx 0xFF) ∧
    oraForm (.mem (.absx 0xFFFF)) = some (.oraAbsx 0xFFFF) ∧ eorForm (.im 0xFF) = some (.eorIm 0xFF) ∧
    bitForm (.mem (.abs 0xFFFF)) = some (.bitAbs 0xFFFF) ∧ adcForm (.mem (.zpx 0xFF)) = some (.adcZpx 0xFF) ∧
    sbcForm (.im 0x80) = some (.sbcIm 0x80) ∧ cmpForm (.mem (.absy 0xFFFF)) = some (.cmpAbsy 0xFFFF) ∧
    cpxForm (.mem (.zp 0xFF)) = some (.cpxZp 0xFF) ∧ cpyForm (.mem (.abs 0xFFFF)) = some (.cpyAbs 0xFFFF) := by
  decide

/-- Forms of the stores, the counts and the shifts, each clause once (StoresWriteTheRegister,
IncAndDecCountACell, ShiftsAndRotatesByRule). -/
theorem witness_write_forms :
    staForm (.indy 0xFF) = some (.staIndy 0xFF) ∧ stxForm (.abs 0xFFFF) = some (.stxAbs 0xFFFF) ∧
    styForm (.zp 0xFF) = some (.styZp 0xFF) ∧ incForm (.absx 0xFFFF) = some (.incAbsx 0xFFFF) ∧
    decForm (.zpx 0xFF) = some (.decZpx 0xFF) ∧ aslForm (.absx 0xFFFF) = some (.aslAbsx 0xFFFF) ∧
    lsrForm (.zpx 0xFF) = some (.lsrZpx 0xFF) ∧ rolForm (.abs 0xFFFF) = some (.rolAbs 0xFFFF) ∧
    rorForm (.zp 0x00) = some (.rorZp 0x00) := by decide

/-- Every form of R77's table is reached by one of the form functions: LDA has 8, LDX 5, LDY 5, AND, ORA,
EOR, ADC, SBC and CMP 8 each, BIT 2, CPX and CPY 3, STA 7, STX and STY 3, and the six others 4 each. -/
theorem test_form_counts :
    let reads : List ReadOperand := [.im 0, .mem (.zp 0), .mem (.zpx 0), .mem (.zpy 0), .mem (.abs 0),
      .mem (.absx 0), .mem (.absy 0), .mem (.indx 0), .mem (.indy 0)]
    let writes : List MemOperand := [.zp 0, .zpx 0, .zpy 0, .abs 0, .absx 0, .absy 0, .indx 0, .indy 0]
    [ldaForm, ldxForm, ldyForm, andForm, oraForm, eorForm, adcForm, sbcForm, cmpForm, bitForm, cpxForm,
      cpyForm].map (fun form => (reads.filterMap form).length) = [8, 5, 5, 8, 8, 8, 8, 8, 8, 2, 3, 3] ∧
    [staForm, stxForm, styForm, incForm, decForm, aslForm, lsrForm, rolForm, rorForm].map
      (fun form => (writes.filterMap form).length) = [7, 3, 3, 4, 4, 4, 4, 4, 4] := by decide

/-- After JSR at SP = 0x00 the state itself has SP and the two bytes as JSR left them. -/
theorem witness_RtsResumesAfterJsr :
    ∃ t, exec (.jsrAbs 0x3000) sample = .next t ∧ ({ t with a := 0, pc := 0x4000 } : State).sp = t.sp ∧
      ({ t with a := 0, pc := 0x4000 } : State).mem.read (sample.stackAddr 0) = t.mem.read (sample.stackAddr 0) ∧
      ({ t with a := 0, pc := 0x4000 } : State).mem.read (sample.stackAddr (-1)) =
        t.mem.read (sample.stackAddr (-1)) := ⟨_, rfl, rfl, rfl, rfl⟩

theorem witness_RtiResumesAfterBrk :
    ∃ t, exec .brk sample = .next t ∧ ({ t with a := 0, pc := 0x4000 } : State).sp = t.sp ∧
      ({ t with a := 0, pc := 0x4000 } : State).mem.read (sample.stackAddr 0) = t.mem.read (sample.stackAddr 0) ∧
      ({ t with a := 0, pc := 0x4000 } : State).mem.read (sample.stackAddr (-1)) =
        t.mem.read (sample.stackAddr (-1)) ∧
      ({ t with a := 0, pc := 0x4000 } : State).mem.read (sample.stackAddr (-2)) =
        t.mem.read (sample.stackAddr (-2)) := ⟨_, rfl, rfl, rfl, rfl, rfl⟩

theorem witness_PullUndoesPush :
    (∃ t, exec .pha sample = .next t ∧ ({ t with a := 0 } : State).sp = t.sp ∧
      ({ t with a := 0 } : State).mem.read (sample.stackAddr 0) = t.mem.read (sample.stackAddr 0)) ∧
    (∃ t, exec .php sample = .next t ∧ ({ t with a := 0 } : State).sp = t.sp ∧
      ({ t with a := 0 } : State).mem.read (sample.stackAddr 0) = t.mem.read (sample.stackAddr 0)) :=
  ⟨⟨_, rfl, rfl, rfl⟩, ⟨_, rfl, rfl, rfl⟩⟩

theorem witness_CycleCostsFollowTheTable :
    sample.runState = .ready ∧ sample.instrAtPc = some (.cmpIm 0x10) := by decide

/-- A JMP (ind) whose pointer ends in 0xFE, one below the boundary, and an instruction that is no JMP. -/
theorem witness_ParametersActOnlyWhereNamed :
    (∀ ptr : Word, Instr.jmpInd 0x02FE = .jmpInd ptr → ptr.toNat % 256 ≠ 255) ∧
    (∀ ptr : Word, Instr.brk = .jmpInd ptr → ptr.toNat % 256 ≠ 255) := by
  constructor
  · intro ptr h
    injection h with h
    subst h
    decide
  · intro ptr h
    injection h

theorem witness_ExecuteIsTheBudgetedLoop : sample.runState = .ready := by decide

theorem witness_ExecuteOvershootsByAtMostSix :
    ∃ t, (0 : Int) < 1 ∧ (start 0x1000 [0xFE, 0x00, 0x12] [] id).execute 1 = (.ok 7, t) :=
  ⟨_, by decide, rfl⟩

/-- The budget clause at 0 and below it. -/
theorem witness_ExecuteRefusesOrRunsNothing :
    ({ sample with runState := .uninitialised } : State).runState ≠ .ready ∧
    ({ sample with runState := .faulted 0x02 0x0200 } : State).runState ≠ .ready ∧
    sample.runState = .ready ∧ (0 : Int) ≤ 0 ∧ (-3 : Int) ≤ 0 := by decide

/-- Three bytes loaded at 0xFFFF: the first and the last of them, and the first address past them. Of a
program of 65,537 bytes, byte 1 is the first that stays. Images of no byte and of one. -/
theorem witness_LoaderPlacesTheImage :
    (0 < ([0x11, 0x22, 0x33] : List Byte).length ∧ ([0x11, 0x22, 0x33] : List Byte).length ≤ 0 + 65536) ∧
    (2 < ([0x11, 0x22, 0x33] : List Byte).length ∧ ([0x11, 0x22, 0x33] : List Byte).length ≤ 2 + 65536) ∧
    (1 < (List.replicate 65537 (0x11 : Byte)).length ∧
      (List.replicate 65537 (0x11 : Byte)).length ≤ 1 + 65536) ∧
    ([0x11, 0x22, 0x33] : List Byte).length ≤ ((0x0002 : Word) - ((0xFF : Byte) ++ (0xFF : Byte) : Word)).toNat ∧
    ([] : List Byte).length < 2 ∧ ([0x11] : List Byte).length < 2 := by
  refine ⟨by decide, by decide, ?_, by decide, by decide, by decide⟩
  rw [List.length_replicate]
  decide

theorem witness_HostWritesOneField :
    ({ sample with runState := .faulted 0x02 0x0200 } : State).runState ≠ .ready ∧ sample.runState = .ready ∧
    (0xFFFE : Word) ≠ 0xFFFF := by decide

/-- Concrete next states for the instructions a completion statement covers: PHA at SP = 0x00, PLP, BRK,
RTI and a taken branch from `sample`, as numbers from the rules. -/
theorem witness_completions :
    (seen (exec .pha sample)).map Seen.sp = some 0xFF ∧ (seen (exec .plp sample)).map Seen.sp = some 0x01 ∧
    (seen (exec .brk sample)).map Seen.sp = some 0xFD ∧ (seen (exec .rti sample)).map Seen.sp = some 0x03 ∧
    (seen (exec (.bcs 0x80) sample)).map Seen.pc = some 0xFF80 := by decide

end Sys2Proof.Tests
end

section
/-! PROOF. Rule R6 of 00_scope.md: an instruction looks at the two parameters only where it finds the target
of JMP (ind) and where it charges the delta of CYCLE_TABLE = nmos. `State.under` sets up the second of two
runs to compare, with other parameters and (for rule R387, which wants the same comparison) another counter;
each operation commutes with it. -/

namespace Sys2Proof

/-- The mask of rule R114 keeps the page number. -/
theorem and_pageMask (w : Word) : w &&& (0xFF00 : Word) = (w >>> 8) <<< 8 := by
  rw [BitVec.shiftLeft_ushiftRight]
  rfl

/-- Off the last byte of a page, the successor that R114 keeps in the page is the next address. -/
theorem succ_in_page_of_not_page_end {ptr : Word} (h : ptr.toNat % 256 ≠ 255) :
    (ptr &&& 0xFF00) ||| ((ptr + 1) &&& 0x00FF) = ptr + 1 := by
  have hpage : ptr >>> 8 = (ptr + 1) >>> 8 := by
    apply BitVec.eq_of_toNat_eq
    simp only [BitVec.toNat_ushiftRight, Nat.shiftRight_eq_div_pow, BitVec.toNat_add, BitVec.ofNat_eq_ofNat,
      BitVec.toNat_ofNat]
    omega
  calc (ptr &&& 0xFF00) ||| ((ptr + 1) &&& 0x00FF)
      = ((ptr + 1) &&& 0xFF00) ||| ((ptr + 1) &&& 0x00FF) := by rw [and_pageMask, and_pageMask, hpage]
    _ = (ptr + 1) &&& (0xFF00 ||| 0x00FF) := BitVec.and_or_distrib_left.symm
    _ = ptr + 1 := BitVec.and_allOnes

end Sys2Proof

namespace Sys2Proof.Machine

/-- `s` under the parameters `cfg` and with the cycle counter moved by `d`. -/
def State.under (s : State) (cfg : Config) (d : Int) : State := { s with cfg := cfg, cyc := s.cyc + d }

section
variable (s : State) (cfg : Config) (d : Int)

@[simp] theorem State.under_a : (s.under cfg d).a = s.a := rfl
@[simp] theorem State.under_x : (s.under cfg d).x = s.x := rfl
@[simp] theorem State.under_y : (s.under cfg d).y = s.y := rfl
@[simp] theorem State.under_p : (s.under cfg d).p = s.p := rfl
@[simp] theorem State.under_pc : (s.under cfg d).pc = s.pc := rfl
@[simp] theorem State.under_mem : (s.under cfg d).mem = s.mem := rfl
@[simp] theorem State.under_cfg : (s.under cfg d).cfg = cfg := rfl
@[simp] theorem State.under_stackAddr (k : Byte) : (s.under cfg d).stackAddr k = s.stackAddr k := rfl

theorem State.under_zero : s.under cfg 0 = { s with cfg := cfg } := by
  simp only [State.under, Int.add_zero]

theorem State.under_setP (p : Status) :
    ({ s.under cfg d with p := p } : State) = ({ s with p := p } : State).under cfg d := rfl

/-! ### The operations of Machine/Ops.lean -/

@[simp] theorem State.charge_under (n : Nat) : (s.under cfg d).charge n = (s.charge n).under cfg d := by
  simp only [State.under, State.charge, sub_add_eq_add_sub]

/-- No delta is charged for 0 cycles, under either table (R382). -/
@[simp] theorem State.chargeNmos_zero : s.chargeNmos 0 = s := by
  have h : nmosDelta s.cfg 0 = 0 := by
    unfold nmosDelta
    split <;> rfl
  simp only [State.chargeNmos, h, State.charge, Nat.cast_zero, Int.sub_zero]

@[simp] theorem State.fetched_under (n : Nat) : (s.under cfg d).fetched n = (s.fetched n).under cfg d :=
  State.charge_under { s with pc := s.pc + BitVec.ofNat 16 n } cfg d n

@[simp] theorem State.readByte_under (addr : Word) :
    (s.under cfg d).readByte addr = ((s.readByte addr).1, (s.readByte addr).2.under cfg d) :=
  congrArg (s.mem.read addr, ·) (s.charge_under cfg d 1)

@[simp] theorem State.readWord_under (addr : Word) :
    (s.under cfg d).readWord addr = ((s.readWord addr).1, (s.readWord addr).2.under cfg d) := by
  simp only [State.readWord, State.readByte_under]

@[simp] theorem State.writeByte_under (addr : Word) (v : Byte) :
    (s.under cfg d).writeByte addr v = (s.writeByte addr v).under cfg d :=
  State.charge_under { s with mem := s.mem.write addr v } cfg d 1

@[simp] theorem State.push_under (v : Byte) : (s.under cfg d).push v = (s.push v).under cfg d := by
  simp only [State.push, State.under_stackAddr, State.writeByte_under]
  rfl

@[simp] theorem State.pop_under : (s.under cfg d).pop = (s.pop.1, s.pop.2.under cfg d) :=
  State.readByte_under { s with sp := s.sp + 1 } cfg d _

@[simp] theorem State.pushWord_under (v : Word) :
    (s.under cfg d).pushWord v = (s.pushWord v).under cfg d := by
  simp only [State.pushWord_eq, State.charge_under]
  rfl

@[simp] theorem State.popWord_under : (s.under cfg d).popWord = (s.popWord.1, s.popWord.2.under cfg d) := by
  refine Prod.ext rfl ?_
  simp only [State.popWord_state, State.charge_under]
  rfl

@[simp] theorem State.takeTrap_under : (s.under cfg d).takeTrap = s.takeTrap.under cfg d := by
  simp only [State.takeTrap, State.pushWord_under, State.push_under, State.under_setP, State.readWord_under]
  rfl

@[simp] theorem State.returnFromTrap_under :
    (s.under cfg d).returnFromTrap = s.returnFromTrap.under cfg d := by
  simp only [State.returnFromTrap, State.pop_under, State.under_setP, State.popWord_under]
  rfl

/-! ### Operands -/

@[simp] theorem zpReadWord_under (b : Byte) :
    zpReadWord b (s.under cfg d) = ((zpReadWord b s).1, (zpReadWord b s).2.under cfg d) := by
  simp only [zpReadWord, State.readByte_under]

@[simp] theorem effectiveAddress_under (variant : Variant) (m : MemOperand) :
    effectiveAddress variant m (s.under cfg d) =
      ((effectiveAddress variant m s).1, (effectiveAddress variant m s).2.under cfg d) := by
  cases m <;> simp [effectiveAddress]

@[simp] theorem readOperand_under (o : ReadOperand) :
    readOperand o (s.under cfg d) = ((readOperand o s).1, (readOperand o s).2.under cfg d) := by
  cases o <;> simp [readOperand]

/-! ### The shapes of the rules -/

@[simp] theorem loadA_under (o : ReadOperand) : loadA o (s.under cfg d) = (loadA o s).under cfg d := by
  simp only [loadA, readOperand_under]
  rfl

@[simp] theorem loadX_under (o : ReadOperand) : loadX o (s.under cfg d) = (loadX o s).under cfg d := by
  simp only [loadX, readOperand_under]
  rfl

@[simp] theorem loadY_under (o : ReadOperand) : loadY o (s.under cfg d) = (loadY o s).under cfg d := by
  simp only [loadY, readOperand_under]
  rfl

@[simp] theorem storeByte_under (v : Byte) (m : MemOperand) :
    storeByte v m (s.under cfg d) = (storeByte v m s).under cfg d := by
  simp only [storeByte, effectiveAddress_under, State.writeByte_under]

@[simp] theorem logicA_under (f : Byte → Byte → Byte) (o : ReadOperand) :
    logicA f o (s.under cfg d) = (logicA f o s).under cfg d := by
  simp only [logicA, readOperand_under]
  rfl

@[simp] theorem testBits_under (o : ReadOperand) :
    testBits o (s.under cfg d) = (testBits o s).under cfg d := by
  simp only [testBits, readOperand_under]
  rfl

@[simp] theorem addA_under (o : ReadOperand) : addA o (s.under cfg d) = (addA o s).under cfg d := by
  simp only [addA, readOperand_under]
  rfl

@[simp] theorem subtractA_under (o : ReadOperand) :
    subtractA o (s.under cfg d) = (subtractA o s).under cfg d := by
  simp only [subtractA, readOperand_under]
  rfl

@[simp] theorem compareWith_under (reg : Byte) (o : ReadOperand) :
    compareWith reg o (s.under cfg d) = (compareWith reg o s).under cfg d := by
  simp only [compareWith, readOperand_under]
  rfl

@[simp] theorem modifyMem_under (f : Byte → Status → Byte × Status) (m : MemOperand) :
    modifyMem f m (s.under cfg d) = (modifyMem f m s).under cfg d := by
  simp only [modifyMem, effectiveAddress_under, State.readByte_under, State.charge_under,
    State.writeByte_under]
  rfl

@[simp] theorem modifyA_under (f : Byte → Status → Byte × Status) :
    modifyA f (s.under cfg d) = (modifyA f s).under cfg d := by
  simp only [modifyA, State.charge_under]
  rfl

@[simp] theorem pullA_under : pullA (s.under cfg d) = (pullA s).under cfg d := by
  simp only [pullA, State.pop_under, ← State.charge_under]
  rfl

@[simp] theorem pullStatus_under : pullStatus (s.under cfg d) = (pullStatus s).under cfg d := by
  simp only [pullStatus, State.pop_under, State.under_setP, State.charge_under]

@[simp] theorem jumpTo_under (addr : Word) : jumpTo addr (s.under cfg d) = (jumpTo addr s).under cfg d := by
  simp only [jumpTo, State.fetched_under]
  rfl

@[simp] theorem callSubroutine_under (addr : Word) :
    callSubroutine addr (s.under cfg d) = (callSubroutine addr s).under cfg d := by
  simp only [callSubroutine, State.fetched_under, State.pushWord_under, ← State.charge_under]
  rfl

@[simp] theorem returnFromSubroutine_under :
    returnFromSubroutine (s.under cfg d) = (returnFromSubroutine s).under cfg d := by
  simp only [returnFromSubroutine, State.popWord_under, ← State.charge_under]
  rfl

@[simp] theorem branchIf_under (cond : Bool) (disp : Byte) :
    branchIf cond disp (s.under cfg d) = (branchIf cond disp s).under cfg d := by
  simp only [branchIf, relativeTarget, State.fetched_under, State.charge_under]
  split <;> rfl

end

/-! ### Where the parameters act -/

/-- JMP_IND_PAGE_WRAP has no effect on a pointer that does not end in 0xFF (R114). -/
theorem indirectTarget_of_not_page_end {ptr : Word} (h : ptr.toNat % 256 ≠ 255) (s : State) :
    indirectTarget ptr s = (s.fetched 2).readWord ptr := by
  simp only [indirectTarget, succ_in_page_of_not_page_end h]
  split <;> rfl

/-- Rule R6 gives `i` no way to tell how `c` and `c'` wrap: they wrap alike, or `i` is no JMP (ind) through a
pointer that ends in 0xFF. -/
def WrapAlikeFor (i : Instr) (c c' : Config) : Prop :=
  c.jmpIndPageWrap = c'.jmpIndPageWrap ∨ ∀ ptr : Word, i = .jmpInd ptr → ptr.toNat % 256 ≠ 255

theorem jumpIndirect_under {ptr : Word} {s : State} {cfg : Config}
    (h : WrapAlikeFor (.jmpInd ptr) s.cfg cfg) (d : Int) :
    jumpIndirect ptr (s.under cfg d) = (jumpIndirect ptr s).under cfg d := by
  have htarget : indirectTarget ptr (s.under cfg d) =
      ((indirectTarget ptr s).1, (indirectTarget ptr s).2.under cfg d) := by
    obtain hwrap | hptr := h
    · simp only [indirectTarget, State.fetched_under, State.under_cfg, State.fetched_cfg, hwrap]
      split <;> simp
    · simp [indirectTarget_of_not_page_end (hptr ptr rfl)]
  simp only [jumpIndirect, htarget]
  rfl

theorem exec_under_of_no_delta {i : Instr} {s t : State} {cfg : Config} {d : Int}
    (hrun : exec i s = .next t) (hunder : exec i (s.under cfg d) = .next (t.under cfg d)) :
    ∃ (t : State) (n : Nat), exec i s = .next (t.chargeNmos n) ∧
      exec i (s.under cfg d) = .next ((t.under cfg d).chargeNmos n) :=
  ⟨t, 0, by simpa using hrun, by simpa using hunder⟩

/-- Under other parameters and from another counter an instruction does the same, up to the delta that
CYCLE_TABLE charges last (R6, R382, R387). -/
theorem exec_under (i : Instr) (s : State) {cfg : Config} (h : WrapAlikeFor i s.cfg cfg) (d : Int) :
    ∃ (t : State) (n : Nat), exec i s = .next (t.chargeNmos n) ∧
      exec i (s.under cfg d) = .next ((t.under cfg d).chargeNmos n) := by
  cases i
  case pha | php | pla | plp | rts | brk => exact ⟨_, 1, rfl, by simp⟩
  case rti => exact ⟨_, 2, rfl, by simp⟩
  case jmpInd ptr => exact exec_under_of_no_delta rfl (by simp [jumpIndirect_under h])
  case tax | tay | txa | tya | tsx | txs | inx | iny | dex | dey | clc | cld | cli | clv | sec | sed | sei =>
    exact exec_under_of_no_delta rfl (by simp [State.under, State.charge, sub_add_eq_add_sub])
  -- Every other form is one of the shapes above.
  all_goals exact exec_under_of_no_delta rfl (by simp)

/-- No instruction writes the parameters: put under its own, a run ends under them. -/
theorem exec_keeps_cfg {i : Instr} {s t : State} (h : exec i s = .next t) : t.cfg = s.cfg := by
  obtain ⟨u, n, -, hunder⟩ := exec_under i s (cfg := s.cfg) (.inl rfl) 0
  rw [State.under_zero s] at hunder
  have hnext : Host.Outcome.next t = .next ((u.under s.cfg 0).chargeNmos n) := h.symm.trans hunder
  injection hnext with ht
  rw [ht, State.chargeNmos_cfg, State.under_cfg]

/-- Settles O55: both runs of a clause wrap alike for the instruction, so they differ only in the delta charged
last; in the second clause the tables agree, and so do the deltas. -/
theorem parametersActOnlyWhereNamed : Obligations.ParametersActOnlyWhereNamed := by
  refine ⟨fun i s table => ?_, fun i s wrap hptr => ?_⟩
  · obtain ⟨t, n, hrun, hunder⟩ := exec_under i s (cfg := { s.cfg with cycleTable := table }) (.inl rfl) 0
    rw [State.under_zero, State.under_zero] at hunder
    exact ⟨_, _, hrun, hunder⟩
  · obtain ⟨t, n, hrun, hunder⟩ := exec_under i s (cfg := { s.cfg with jmpIndPageWrap := wrap }) (.inr hptr) 0
    have hcfg : t.cfg = s.cfg := (t.chargeNmos_cfg n).symm.trans (exec_keeps_cfg hrun)
    rw [State.under_zero, State.under_zero, ← hcfg] at hunder
    rw [← hcfg]
    exact ⟨_, hrun, hunder⟩

end Sys2Proof.Machine
end

section
/-! PROOF. What each shape of the rules does to the state, as one record update of the state before: the
operand's value, the registers, flags and cells the shape writes, PC, and the counter. Everything the record
does not name is kept, so who writes what (10_state.md) is read off these equations. -/

open Sys2Proof.Spec

namespace Sys2Proof.Machine

section
variable (s : State)

/-! ### Operands -/

/-- PC as the statements count it (R26), as a sum of words. -/
theorem pcPast_eq (n : Nat) : pcPast s n = s.pc + BitVec.ofNat 16 n :=
  BitVec.eq_of_toNat_eq (by simp [pcPast])

/-- A resolver passes its operand bytes and charges; it writes nothing else (R100). -/
theorem effectiveAddress_passes (variant : Variant) (m : MemOperand) :
    (effectiveAddress variant m s).2 =
      { s with
        pc := s.pc + BitVec.ofNat 16 (modeBytes m)
        cyc := (effectiveAddress variant m s).2.cyc } := by
  cases m <;> rfl

theorem readOperand_passes (o : ReadOperand) :
    (readOperand o s).2 =
      { s with
        pc := s.pc + BitVec.ofNat 16 (operandBytes o)
        cyc := (readOperand o s).2.cyc } := by
  cases o with
  | im v => rfl
  | mem m => exact congrArg (State.charge · 1) (effectiveAddress_passes s .read m)

/-! ### Instructions with an operand -/

@[simp] theorem loadA_eq (o : ReadOperand) :
    loadA o s =
      { s with
        a := (readOperand o s).1
        p := s.p.setNZ (readOperand o s).1
        pc := s.pc + BitVec.ofNat 16 (operandBytes o)
        cyc := (readOperand o s).2.cyc } := by
  rw [loadA, readOperand_passes]

@[simp] theorem loadX_eq (o : ReadOperand) :
    loadX o s =
      { s with
        x := (readOperand o s).1
        p := s.p.setNZ (readOperand o s).1
        pc := s.pc + BitVec.ofNat 16 (operandBytes o)
        cyc := (readOperand o s).2.cyc } := by
  rw [loadX, readOperand_passes]

@[simp] theorem loadY_eq (o : ReadOperand) :
    loadY o s =
      { s with
        y := (readOperand o s).1
        p := s.p.setNZ (readOperand o s).1
        pc := s.pc + BitVec.ofNat 16 (operandBytes o)
        cyc := (readOperand o s).2.cyc } := by
  rw [loadY, readOperand_passes]

@[simp] theorem logicA_eq (f : Byte → Byte → Byte) (o : ReadOperand) :
    logicA f o s =
      { s with
        a := f s.a (readOperand o s).1
        p := s.p.setNZ (f s.a (readOperand o s).1)
        pc := s.pc + BitVec.ofNat 16 (operandBytes o)
        cyc := (readOperand o s).2.cyc } := by
  rw [logicA, readOperand_passes]

@[simp] theorem testBits_eq (o : ReadOperand) :
    testBits o s =
      { s with
        p := s.p.bitTest s.a (readOperand o s).1
        pc := s.pc + BitVec.ofNat 16 (operandBytes o)
        cyc := (readOperand o s).2.cyc } := by
  rw [testBits, readOperand_passes]

@[simp] theorem compareWith_eq (reg : Byte) (o : ReadOperand) :
    compareWith reg o s =
      { s with
        p := s.p.compare reg (readOperand o s).1
        pc := s.pc + BitVec.ofNat 16 (operandBytes o)
        cyc := (readOperand o s).2.cyc } := by
  rw [compareWith, readOperand_passes]

@[simp] theorem addA_eq (o : ReadOperand) :
    addA o s =
      { s with
        a := (adc s.a (readOperand o s).1 s.p.c).result
        p := s.p.setSum (adc s.a (readOperand o s).1 s.p.c)
        pc := s.pc + BitVec.ofNat 16 (operandBytes o)
        cyc := (readOperand o s).2.cyc
        decNotice := s.decNotice || s.p.d } := by
  rw [addA, readOperand_passes]
  rfl

@[simp] theorem subtractA_eq (o : ReadOperand) :
    subtractA o s =
      { s with
        a := (sbc s.a (readOperand o s).1 s.p.c).result
        p := s.p.setSum (sbc s.a (readOperand o s).1 s.p.c)
        pc := s.pc + BitVec.ofNat 16 (operandBytes o)
        cyc := (readOperand o s).2.cyc
        decNotice := s.decNotice || s.p.d } := by
  rw [subtractA, readOperand_passes]
  rfl

@[simp] theorem storeByte_eq (v : Byte) (m : MemOperand) :
    storeByte v m s =
      { s with
        mem := s.mem.write (effectiveAddress .always m s).1 v
        pc := s.pc + BitVec.ofNat 16 (modeBytes m)
        cyc := (effectiveAddress .always m s).2.cyc - 1 } := by
  rw [storeByte, effectiveAddress_passes]
  rfl

@[simp] theorem modifyMem_eq (f : Byte → Status → Byte × Status) (m : MemOperand) :
    modifyMem f m s =
      { s with
        mem := s.mem.write (effectiveAddress .always m s).1
          (f (s.mem.read (effectiveAddress .always m s).1) s.p).1
        p := (f (s.mem.read (effectiveAddress .always m s).1) s.p).2
        pc := s.pc + BitVec.ofNat 16 (modeBytes m)
        cyc := (effectiveAddress .always m s).2.cyc - 1 - 1 - 1 } := by
  rw [modifyMem, effectiveAddress_passes]
  rfl

@[simp] theorem modifyA_eq (f : Byte → Status → Byte × Status) :
    modifyA f s = { s with a := (f s.a s.p).1, p := (f s.a s.p).2, cyc := s.cyc - 1 } := rfl

/-! ### The stack -/

theorem State.stackAddr_of_sp_add (j k : Byte) :
    ({ s with sp := s.sp + j } : State).stackAddr k = s.stackAddr (j + k) := by
  simp only [State.stackAddr, BitVec.add_assoc]

@[simp] theorem State.pop_value : s.pop.1 = s.mem.read (s.stackAddr 1) :=
  congrArg s.mem.read (s.stackAddr_of_sp_add 1 0)

@[simp] theorem pullA_eq :
    pullA s =
      { s with
        a := s.mem.read (s.stackAddr 1)
        p := s.p.setNZ (s.mem.read (s.stackAddr 1))
        sp := s.sp + 1
        cyc := s.cyc - 1 - 1 } := by
  rw [← State.pop_value]
  rfl

@[simp] theorem pullStatus_eq :
    pullStatus s =
      { s with
        p := Status.pulled (s.mem.read (s.stackAddr 1))
        sp := s.sp + 1
        cyc := s.cyc - 1 - 1 } := by
  rw [← State.pop_value]
  rfl

/-! ### Transfers of control -/

@[simp] theorem jumpTo_eq (addr : Word) : jumpTo addr s = { s with pc := addr, cyc := s.cyc - 2 } := rfl

@[simp] theorem jumpIndirect_eq (ptr : Word) :
    jumpIndirect ptr s = { s with pc := (indirectTarget ptr s).1, cyc := s.cyc - 2 - 2 } := by
  rw [jumpIndirect, indirectTarget_state]
  rfl

@[simp] theorem callSubroutine_eq (addr : Word) :
    callSubroutine addr s =
      { s with
        mem := (s.pushWord (s.pc + 2 - 1)).mem
        sp := s.sp - 2
        pc := addr
        cyc := s.cyc - 2 - 2 - 1 } := by
  rw [callSubroutine, State.pushWord_eq]
  rfl

@[simp] theorem returnFromSubroutine_eq :
    returnFromSubroutine s = { s with sp := s.sp + 2, pc := s.popWord.1 + 1, cyc := s.cyc - 2 - 2 } := by
  rw [returnFromSubroutine, State.popWord_state]
  rfl

@[simp] theorem branchIf_eq (cond : Bool) (disp : Byte) :
    branchIf cond disp s =
      { s with
        pc := if cond then (relativeTarget disp s).1 else s.pc + 1
        cyc := if cond then
            s.cyc - 1 - 1 - (if pageCross (s.pc + 1) (relativeTarget disp s).1 then 1 else 0 : Nat)
          else s.cyc - 1 } := by
  cases cond <;> rfl

@[simp] theorem State.takeTrap_eq :
    s.takeTrap =
      { s with
        mem := ((s.pushWord (s.pc + 1)).push s.p.pushed).mem
        p := { s.p with i := true, b := true }
        sp := s.sp - 3
        pc := (((s.pushWord (s.pc + 1)).push s.p.pushed).readWord brkVector).1
        cyc := s.cyc - 2 - 1 - 2 } := by
  have hsp : s.sp - 3 = s.sp - 2 - 1 := by bv_omega
  rw [State.takeTrap, State.readWord_state, State.pushWord_eq, hsp]
  rfl

@[simp] theorem State.returnFromTrap_eq :
    s.returnFromTrap =
      { s with
        p := Status.pulled (s.mem.read (s.stackAddr 1))
        sp := s.sp + 3
        pc := s.pop.2.popWord.1
        cyc := s.cyc - 1 - 2 } := by
  have hsp : s.sp + 3 = s.sp + 1 + 2 := by bv_omega
  rw [State.returnFromTrap, State.popWord_state, State.pop_value, hsp]
  rfl

end
end Sys2Proof.Machine
end

section
/-! PROOF. What the ALU and the stack do to the status (41_alu_flags.md, R36), and rule R36 itself: the packed
byte has one flag to a bit, so every part of the statement is read off its bits. -/

namespace Sys2Proof.Machine

section
variable (m : Byte) (p : Status)

@[simp] theorem asl_status : (asl m p).2 = ({ p with c := m.getLsbD 7 } : Status).setNZ (m <<< 1) := rfl

@[simp] theorem lsr_status : (lsr m p).2 = { p with c := m.getLsbD 0, z := m >>> 1 == 0, n := false } := rfl

@[simp] theorem rol_status :
    (rol m p).2 = ({ p with c := m.getLsbD 7 } : Status).setNZ ((m <<< 1) ||| bitByte p.c) := rfl

@[simp] theorem ror_status :
    (ror m p).2 = ({ p with c := m.getLsbD 0 } : Status).setNZ ((m >>> 1) ||| (bitByte p.c <<< 7)) := rfl

@[simp] theorem inc_status : (inc m p).2 = p.setNZ (m + 1) := rfl

@[simp] theorem dec_status : (dec m p).2 = p.setNZ (m - 1) := rfl

@[simp] theorem Status.pulled_eq :
    Status.pulled m =
      { n := m.getLsbD 7, v := m.getLsbD 6, u := false, b := false
        d := m.getLsbD 3, i := m.getLsbD 2, z := m.getLsbD 1, c := m.getLsbD 0 } := by
  simp [Status.pulled, Status.unpack]

@[simp] theorem bitByte_getElem (b : Bool) (k : Nat) (h : k < 8) :
    (bitByte b)[k] = (decide (k = 0) && b) := by
  cases b <;> simp [bitByte, BitVec.getElem_one]

theorem Status.unpack_pack : Status.unpack p.pack = p := by
  simp [Status.unpack, Status.pack]

theorem Status.pack_unpack : (Status.unpack m).pack = m := by
  apply BitVec.eq_of_getElem_eq
  intro k hk
  interval_cases k <;> simp [Status.unpack, Status.pack]

theorem Status.pulled_pushed : Status.pulled p.pushed = { p with b := false, u := false } := by
  simp [Status.pushed, Status.pack]

end

/-- The weights of rule R36, by the 256 values of the eight flags. -/
theorem Status.pack_toNat (p : Status) :
    p.pack.toNat = 128 * p.n.toNat + 64 * p.v.toNat + 32 * p.u.toNat + 16 * p.b.toNat +
      8 * p.d.toNat + 4 * p.i.toNat + 2 * p.z.toNat + p.c.toNat := by
  obtain ⟨n, v, u, b, d, i, z, c⟩ := p
  revert n v u b d i z c
  decide

/-- Settles O24, from the bits of the packed byte; the fourth and fifth parts are the definitions. -/
theorem statusBytePacksAndUnpacks : Obligations.StatusBytePacksAndUnpacks :=
  ⟨Status.pack_toNat, Status.unpack_pack, Status.pack_unpack, fun _ => rfl, fun _ => rfl,
    Status.pulled_pushed⟩

end Sys2Proof.Machine
end

section
/-! PROOF. Who writes what (10_state.md): by cases on the instruction, which is one of the shapes above, and a
shape's equation names every field it writes. -/

open Sys2Proof.Spec

namespace Sys2Proof.Machine

/-- Settles O12. -/
theorem onlyListedInstructionsWriteAXY : Obligations.OnlyListedInstructionsWriteAXY := by
  intro i s
  cases i <;> exact ⟨_, rfl, by simp [Instr.mnemonic]⟩

/-- Settles O13: pushes take a constant from SP and pulls add one, both modulo 256. -/
theorem stackPointerMovesByRule : Obligations.StackPointerMovesByRule := by
  intro i s
  cases i <;> refine ⟨_, rfl, ?_⟩
  case pha | php | jsrAbs | brk => simp [spAfter, Instr.mnemonic, BitVec.toNat_sub, Nat.add_comm]
  case pla | plp | rts | rti => simp [spAfter, Instr.mnemonic]
  -- TXS copies X, and no other shape names SP.
  all_goals simp [spAfter, Instr.mnemonic]

/-- Settles O14; for the shifts and INC and DEC the flags are those of their ALU function. -/
theorem onlyListedInstructionsWriteCZNV : Obligations.OnlyListedInstructionsWriteCZNV := by
  intro i s
  cases i <;> exact ⟨_, rfl, by simp [Instr.mnemonic]⟩

/-- Settles O15; PLP and RTI load `Status.pulled` of the popped byte. -/
theorem onlyListedInstructionsWriteIDBU : Obligations.OnlyListedInstructionsWriteIDBU := by
  intro i s
  cases i <;> exact ⟨_, rfl, by simp [Instr.mnemonic]⟩

/-- Settles O20: of the shapes only ADC's and SBC's name the notice. -/
theorem decimalNoticeIsRaisedByAdcAndSbcOnly : Obligations.DecimalNoticeIsRaisedByAdcAndSbcOnly := by
  intro i s
  cases i <;> exact ⟨_, rfl, by simp [Instr.mnemonic]⟩

/-- An instruction that transfers no control passes the operand bytes of its mode (R26, R71). -/
theorem exec_pc {i : Instr} (h : i.mnemonic ∉ transfers) (s : State) :
    ∃ t, exec i s = .next t ∧ t.pc = s.pc + BitVec.ofNat 16 i.mode.operandBytes := by
  cases i
  case jmpAbs | jmpInd | jsrAbs | rts | brk | rti | bcc | bcs | beq | bmi | bne | bpl | bvc | bvs =>
    simp [transfers, Instr.mnemonic] at h
  all_goals exact ⟨_, rfl, by simp [Instr.mode, Mode.operandBytes, operandBytes, modeBytes]⟩

theorem encode_length (i : Instr) : (encode i).length = 1 + i.mode.operandBytes := by
  cases i <;> rfl

theorem step_of_instrAtPc {s : State} {i : Instr} (hready : s.runState = .ready)
    (hi : s.instrAtPc = some i) : step s = exec i (s.fetched 1) := by
  simp only [step, hready, hi]

/-- Settles O19: the fetch passes the opcode byte and the instruction the rest of its encoding. -/
theorem programCounterPassesTheInstruction : Obligations.ProgramCounterPassesTheInstruction := by
  intro s i hready hi htransfers
  obtain ⟨t, hrun, hpc⟩ := exec_pc htransfers (s.fetched 1)
  refine ⟨t, (step_of_instrAtPc hready hi).trans hrun, ?_⟩
  rw [hpc, State.fetched_pc, pcPast_eq, encode_length, BitVec.ofNat_add, BitVec.add_assoc]

/-- A delta of rule R382 is the same from another counter. -/
theorem State.chargeNmos_under_own_cfg (s : State) (d : Int) (n : Nat) :
    (s.under s.cfg d).chargeNmos n = { s.chargeNmos n with cyc := (s.chargeNmos n).cyc + d } :=
  State.charge_under s s.cfg d (nmosDelta s.cfg n)

/-- Settles O54: the comparison of two runs of `exec_under`, both under the state's own parameters. -/
theorem cycleCounterIsNotObservable : Obligations.CycleCounterIsNotObservable := by
  intro i s c
  obtain ⟨t, n, hrun, hunder⟩ := exec_under i s (cfg := s.cfg) (.inl rfl) (c - s.cyc)
  have hstart : s.under s.cfg (c - s.cyc) = { s with cyc := c } := by
    simp only [State.under, add_sub_cancel]
  have hcfg : t.cfg = s.cfg := (t.chargeNmos_cfg n).symm.trans (exec_keeps_cfg hrun)
  have hend : (t.under s.cfg (c - s.cyc)).chargeNmos n =
      { t.chargeNmos n with cyc := (t.chargeNmos n).cyc + (c - s.cyc) } := by
    rw [← hcfg, State.chargeNmos_under_own_cfg]
  rw [hstart, hend] at hunder
  exact ⟨_, hrun, hunder⟩

end Sys2Proof.Machine
end

section
/-! PROOF. Soundness is kept: by every instruction, so by every step, so by the execute loop, so by every move
of the host and every list of moves. -/

namespace Sys2Proof.Machine

/-- Memory is kept or written cell by cell: once by a store or a push, twice by JSR, three times by BRK. -/
theorem exec_keeps_memory_wf {i : Instr} {s t : State} (hwf : s.mem.wf = true) (h : exec i s = .next t) :
    t.mem.wf = true := by
  cases i <;> cases h
  case brk => exact Memory.write_wf _ _ (Memory.write_wf _ _ (Memory.write_wf _ _ hwf))
  all_goals simp [hwf, Memory.write_wf]

/-- U is kept by every instruction but PLP and RTI, which clear it. -/
theorem exec_keeps_unused {i : Instr} {s t : State} (hu : s.p.u = false) (h : exec i s = .next t) :
    t.p.u = false := by
  obtain ⟨t', hrun, -, -, -, hkept, -, -, -, -, -, hpulled⟩ := onlyListedInstructionsWriteIDBU i s
  cases hrun.symm.trans h
  by_cases hpull : i.mnemonic ∈ [.plp, .rti]
  · obtain ⟨-, hclear, -⟩ := hpulled hpull
    exact hclear
  · exact (hkept hpull).trans hu

theorem exec_keeps_sound {i : Instr} {s t : State} (hs : s.Sound) (h : exec i s = .next t) : t.Sound :=
  ⟨exec_keeps_memory_wf hs.memory h, exec_keeps_unused hs.unused h⟩

theorem fetched_keeps_sound {s : State} (hs : s.Sound) (n : Nat) : (s.fetched n).Sound :=
  ⟨hs.memory, hs.unused⟩

/-- A step that answers a next state has run an instruction after its opcode fetch (R74). -/
theorem exec_of_step_next {s t : State} (h : step s = .next t) : ∃ i, exec i (s.fetched 1) = .next t := by
  unfold step at h
  split at h
  · split at h
    · exact ⟨_, h⟩
    · cases h
  · cases h
  · cases h

/-- Settles O10: a fetch writes neither memory nor P, and every instruction keeps soundness. -/
theorem stepKeepsSoundness : Obligations.StepKeepsSoundness := by
  intro s t hs hstep
  obtain ⟨i, hrun⟩ := exec_of_step_next hstep
  exact exec_keeps_sound (fetched_keeps_sound hs 1) hrun

theorem executeLoop_keeps_sound (fuel : Nat) : ∀ {s : State}, s.Sound → (executeLoop fuel s).2.Sound := by
  induction fuel with
  | zero => exact id
  | succ fuel ih =>
    intro s hs
    unfold executeLoop
    split
    · split
      next t hstep => exact ih (stepKeepsSoundness s t hs hstep)
      · exact ⟨hs.memory, hs.unused⟩
      · exact hs
    · exact hs

theorem execute_keeps_sound {s : State} (hs : s.Sound) (budget : Int) : (s.execute budget).2.Sound := by
  have hloop : (executeLoop budget.toNat { s with cyc := budget }).2.Sound :=
    executeLoop_keeps_sound _ ⟨hs.memory, hs.unused⟩
  unfold State.execute
  split
  · split
    all_goals
      next heq =>
        rw [heq] at hloop
        exact ⟨hloop.memory, hloop.unused⟩
  · exact hs
  · exact hs

theorem load_keeps_sound {s t : State} {image : List Byte} {addr : Word} (hs : s.Sound)
    (h : s.load image = some (addr, t)) : t.Sound := by
  obtain ⟨parts, -, hparts⟩ := Option.map_eq_some_iff.mp h
  cases hparts
  exact ⟨Memory.place_wf _ _ hs.memory, hs.unused⟩

/-- The host has no write of U (R380). -/
theorem written_keeps_sound {s : State} (hs : s.Sound) (w : HostWrite) : (s.written w).Sound := by
  cases w with
  | cell addr v => exact ⟨Memory.write_wf addr v hs.memory, hs.unused⟩
  | flag which v => exact ⟨hs.memory, by cases which <;> exact hs.unused⟩
  | a | x | y | sp | pc => exact ⟨hs.memory, hs.unused⟩

theorem afterMove_keeps_sound {s : State} (hs : s.Sound) (move : HostMove) : (s.afterMove move).Sound := by
  cases move with
  | reset entryPC => exact ⟨Memory.reset_wf entryPC, rfl⟩
  | load image =>
    simp only [State.afterMove]
    split
    next h => exact load_keeps_sound hs h
    · exact hs
  | write w =>
    simp only [State.afterMove, State.hostWrite]
    cases s.runState with
    | ready => exact written_keeps_sound hs w
    | uninitialised | faulted => exact hs
  | execute budget => exact execute_keeps_sound hs budget

/-- Settles O11, by induction on the list of moves. -/
theorem hostMovesKeepSoundness : Obligations.HostMovesKeepSoundness := by
  intro moves s hs
  induction moves generalizing s with
  | nil => exact hs
  | cons move moves ih => exact ih _ (afterMove_keeps_sound hs move)

end Sys2Proof.Machine
end

section
/-! PROOF. Who writes memory (20_memory.md, R51, R52): which shape of a rule each store and read-modify-write
is, what that shape does to memory, and that every other shape but a push keeps it. -/

open Sys2Proof.Spec

namespace Sys2Proof.Machine

/-! ### The forms that store, as the shapes of their rules -/

section
variable {m : MemOperand} {i : Instr} (s : State)

theorem exec_of_staForm (h : staForm m = some i) : exec i s = .next (storeByte s.a m s) := by
  cases m <;> cases h <;> rfl

theorem exec_of_stxForm (h : stxForm m = some i) : exec i s = .next (storeByte s.x m s) := by
  cases m <;> cases h <;> rfl

theorem exec_of_styForm (h : styForm m = some i) : exec i s = .next (storeByte s.y m s) := by
  cases m <;> cases h <;> rfl

theorem exec_of_incForm (h : incForm m = some i) : exec i s = .next (modifyMem inc m s) := by
  cases m <;> cases h <;> rfl

theorem exec_of_decForm (h : decForm m = some i) : exec i s = .next (modifyMem dec m s) := by
  cases m <;> cases h <;> rfl

theorem exec_of_aslForm (h : aslForm m = some i) : exec i s = .next (modifyMem asl m s) := by
  cases m <;> cases h <;> rfl

theorem exec_of_lsrForm (h : lsrForm m = some i) : exec i s = .next (modifyMem lsr m s) := by
  cases m <;> cases h <;> rfl

theorem exec_of_rolForm (h : rolForm m = some i) : exec i s = .next (modifyMem rol m s) := by
  cases m <;> cases h <;> rfl

theorem exec_of_rorForm (h : rorForm m = some i) : exec i s = .next (modifyMem ror m s) := by
  cases m <;> cases h <;> rfl

/-- A store or a read-modify-write is one of the two shapes with an operand that write memory. -/
theorem exec_of_storeForm {form : MemOperand → Option Instr} (hform : form ∈ storeForms)
    (h : form m = some i) :
    (∃ v, exec i s = .next (storeByte v m s)) ∨ ∃ f, exec i s = .next (modifyMem f m s) := by
  simp only [storeForms, List.mem_cons, List.not_mem_nil, or_false] at hform
  obtain rfl | rfl | rfl | rfl | rfl | rfl | rfl | rfl | rfl := hform
  · exact .inl ⟨_, exec_of_staForm s h⟩
  · exact .inl ⟨_, exec_of_stxForm s h⟩
  · exact .inl ⟨_, exec_of_styForm s h⟩
  · exact .inr ⟨_, exec_of_incForm s h⟩
  · exact .inr ⟨_, exec_of_decForm s h⟩
  · exact .inr ⟨_, exec_of_aslForm s h⟩
  · exact .inr ⟨_, exec_of_lsrForm s h⟩
  · exact .inr ⟨_, exec_of_rolForm s h⟩
  · exact .inr ⟨_, exec_of_rorForm s h⟩

end

/-! ### The cells each shape leaves alone -/

section
variable (s : State) (m : MemOperand) {addr : Word}

theorem storeByte_read_other (v : Byte) (hne : addr ≠ (effectiveAddress .always m s).1) :
    (storeByte v m s).mem.read addr = s.mem.read addr := by
  rw [storeByte_eq, Memory.read_write_other s.mem v hne]

theorem modifyMem_read_other (f : Byte → Status → Byte × Status)
    (hne : addr ≠ (effectiveAddress .always m s).1) :
    (modifyMem f m s).mem.read addr = s.mem.read addr := by
  rw [modifyMem_eq, Memory.read_write_other s.mem _ hne]

end

/-- Settles O16: the hypothesis leaves out the forms that store or push, and no other shape's equation names
memory. -/
theorem onlyStoringInstructionsChangeMemory : Obligations.OnlyStoringInstructionsChangeMemory := by
  intro i s
  cases i <;> refine ⟨_, rfl, fun hkeeps => ?_⟩
  case staZp | staZpx | staAbs | staAbsx | staAbsy | staIndx | staIndy | stxZp | stxZpy | stxAbs | styZp |
      styZpx | styAbs | incZp | incZpx | incAbs | incAbsx | decZp | decZpx | decAbs | decAbsx | aslZp |
      aslZpx | aslAbs | aslAbsx | lsrZp | lsrZpx | lsrAbs | lsrAbsx | rolZp | rolZpx | rolAbs | rolAbsx |
      rorZp | rorZpx | rorAbs | rorAbsx | pha | php | jsrAbs | brk =>
    simp [Instr.mnemonic, Instr.mode] at hkeeps
  all_goals simp

/-- Settles O17: both shapes that write memory write one cell, at the resolved address. -/
theorem storesChangeOnlyTheirCell : Obligations.StoresChangeOnlyTheirCell := by
  intro form hform m i s hi
  obtain ⟨v, hrun⟩ | ⟨f, hrun⟩ := exec_of_storeForm s hform hi
  · exact ⟨_, hrun, fun _ => storeByte_read_other s m v⟩
  · exact ⟨_, hrun, fun _ => modifyMem_read_other s m f⟩

end Sys2Proof.Machine
end

section
/-! PROOF. The decoder against the encoder (30_encoding.md): what a defined opcode byte decodes to and which
bytes are undefined, both read off rule R76's map once; and what `decode` makes of a string of bytes. The
round trips, the well-formed strings and the fetch of a step follow from these. -/

namespace Sys2Proof

section
variable {op b1 b2 : Byte} {i : Instr} {operands rest : List Byte}

/-! ### Rule R76's map -/

/-- Rule R76 takes an opcode byte apart into its row and its column. -/
theorem opcode_eq_row_column (op : Byte) :
    op = BitVec.ofNat 8 (16 * (op.toNat / 16) + op.toNat % 16) := by
  rw [Nat.div_add_mod, BitVec.ofNat_toNat, BitVec.setWidth_eq]

/-- An instruction that an opcode byte decodes to is encoded as that byte and as many of the two bytes after
it as its mode has (R77, R81), and it is as long as the column of the byte says (R71). -/
theorem encode_and_length_of_decodeOpcode (h : decodeOpcode op b1 b2 = some i) :
    encode i = op :: [b1, b2].take i.mode.operandBytes ∧ i.length = opcodeLength op := by
  have hop := opcode_eq_row_column op
  have hrow : op.toNat / 16 < 16 := by omega
  unfold decodeOpcode at h
  generalize op.toNat / 16 = row at h hop hrow
  generalize op.toNat % 16 = column at h hop
  subst hop
  interval_cases row <;>
    simp only [decodeRow0, decodeRow1, decodeRow2, decodeRow3, decodeRow4, decodeRow5, decodeRow6,
      decodeRow7, decodeRow8, decodeRow9, decodeRowA, decodeRowB, decodeRowC, decodeRowD,
      decodeRowE, decodeRowF] at h <;>
    split at h
  -- An undefined column answers nothing; a defined one names an instruction of rule R77's table.
  all_goals cases h <;> simp [encode, Instr.length, Instr.mode, Mode.operandBytes, opcodeLength]

/-- The operand bytes do not decide whether an opcode byte is defined. -/
theorem isNone_decodeOpcode_operands (op b1 b2 : Byte) :
    (decodeOpcode op b1 b2).isNone = (decodeOpcode op 0 0).isNone := by
  unfold decodeOpcode decodeRow0 decodeRow1 decodeRow2 decodeRow3 decodeRow4 decodeRow5 decodeRow6 decodeRow7
      decodeRow8 decodeRow9 decodeRowA decodeRowB decodeRowC decodeRowD decodeRowE decodeRowF
  split <;> split <;> rfl

/-- Rule R79 lists, in order, the bytes that rule R76's map leaves undefined. -/
theorem undefinedOpcodes_eq_filter :
    undefinedOpcodes =
      ((List.range 256).map (BitVec.ofNat 8)).filter fun op => (decodeOpcode op 0 0).isNone := by
  decide

theorem decodeOpcode_eq_none_iff : decodeOpcode op b1 b2 = none ↔ op ∈ undefinedOpcodes := by
  have hbyte : op ∈ (List.range 256).map (BitVec.ofNat 8) :=
    List.mem_map.2 ⟨op.toNat, List.mem_range.2 op.isLt, by rw [BitVec.ofNat_toNat, BitVec.setWidth_eq]⟩
  rw [undefinedOpcodes_eq_filter, List.mem_filter, and_iff_right hbyte,
    ← isNone_decodeOpcode_operands op b1 b2, Option.isNone_iff_eq_none]

theorem exists_decodeOpcode_eq_some (h : op ∉ undefinedOpcodes) (b1 b2 : Byte) :
    ∃ i, decodeOpcode op b1 b2 = some i :=
  Option.ne_none_iff_exists'.1 (mt decodeOpcode_eq_none_iff.1 h)

/-! ### Strings of bytes -/

theorem decode_cons_eq_ok_iff :
    decode (op :: operands) = .ok (i, rest) ↔
      decodeOpcode op (operands.getD 0 0) (operands.getD 1 0) = some i ∧
        i.mode.operandBytes ≤ operands.length ∧ operands.drop i.mode.operandBytes = rest := by
  rw [decode]
  cases decodeOpcode op (operands.getD 0 0) (operands.getD 1 0) with
  | none => simp
  | some j =>
    by_cases hshort : operands.length < j.mode.operandBytes
    · simp only [hshort, ↓reduceIte, reduceCtorEq, Option.some.injEq, false_iff]
      rintro ⟨rfl, hle, -⟩
      omega
    · simp only [hshort, ↓reduceIte, Except.ok.injEq, Prod.mk.injEq, Option.some.injEq, and_congr_right_iff]
      rintro rfl
      rw [and_iff_right (Nat.le_of_not_lt hshort)]

/-- The two bytes that `decode` looks at past the opcode byte, 0 where there is none, are the operand bytes as
far as the mode has some. -/
theorem take_two_getD (m : Mode) (h : m.operandBytes ≤ operands.length) :
    [operands.getD 0 0, operands.getD 1 0].take m.operandBytes = operands.take m.operandBytes := by
  have hmode : m.operandBytes ≤ 2 := by cases m <;> decide
  generalize m.operandBytes = n at h hmode
  match n, operands, h, hmode with
  | 0, _, _, _ => rfl
  | 1, _ :: _, _, _ => rfl
  | 2, _ :: _ :: _, _, _ => rfl

theorem wellFormedBytes_cons_iff :
    wellFormedBytes (op :: operands) = true ↔
      op ∉ undefinedOpcodes ∧ operands.length + 1 = opcodeLength op := by
  simp [wellFormedBytes]

theorem exists_leWord_eq (w : Word) : ∃ lo hi, leWord lo hi = w := ⟨_, _, leWord_bytes w⟩

end

/-- Settles O1: with a word operand given by its two bytes every form evaluates; only the words' order of
bytes (R81) needs a law. -/
theorem encodedInstructionDecodesBack : Obligations.EncodedInstructionDecodesBack := by
  intro i rest
  cases i
  case ldaAbs | ldaAbsx | ldaAbsy | ldxAbs | ldxAbsy | ldyAbs | ldyAbsx | staAbs | staAbsx | staAbsy
      | stxAbs | styAbs | andAbs | andAbsx | andAbsy | oraAbs | oraAbsx | oraAbsy | eorAbs | eorAbsx
      | eorAbsy | bitAbs | incAbs | incAbsx | decAbs | decAbsx | adcAbs | adcAbsx | adcAbsy | sbcAbs
      | sbcAbsx | sbcAbsy | cmpAbs | cmpAbsx | cmpAbsy | cpxAbs | cpyAbs | aslAbs | aslAbsx | lsrAbs
      | lsrAbsx | rolAbs | rolAbsx | rorAbs | rorAbsx | jmpAbs | jmpInd | jsrAbs =>
    obtain ⟨lo, hi, rfl⟩ := exists_leWord_eq ‹Word›
    simp only [encode, loByte_leWord, hiByte_leWord]
    rfl
  all_goals rfl

/-- Settles O2: the bytes of the encoding are those `decode` looked at, and it leaves the rest. -/
theorem decodedBytesEncodeBack : Obligations.DecodedBytesEncodeBack := by
  intro bytes rest i hdecode
  cases bytes with
  | nil => cases hdecode
  | cons op operands =>
    obtain ⟨hi, hle, rfl⟩ := decode_cons_eq_ok_iff.1 hdecode
    obtain ⟨hencode, -⟩ := encode_and_length_of_decodeOpcode hi
    rw [hencode, take_two_getD i.mode hle, List.cons_append, List.take_append_drop]

/-- Settles O3: a byte outside rule R79's list decodes, and the mode takes as many operand bytes as
`wellFormedBytes` counts, so none are missing and none left. -/
theorem exactlyWellFormedBytesDecode : Obligations.ExactlyWellFormedBytesDecode := by
  intro bytes
  cases bytes with
  | nil => simp [wellFormedBytes, decode]
  | cons op operands =>
    rw [wellFormedBytes_cons_iff]
    constructor
    · rintro ⟨hdefined, hlength⟩
      obtain ⟨i, hi⟩ := exists_decodeOpcode_eq_some hdefined (operands.getD 0 0) (operands.getD 1 0)
      obtain ⟨-, hlen⟩ := encode_and_length_of_decodeOpcode hi
      rw [← hlen, Instr.length] at hlength
      exact ⟨i, decode_cons_eq_ok_iff.2 ⟨hi, by omega, List.drop_eq_nil_of_le (by omega)⟩⟩
    · rintro ⟨i, hdecode⟩
      obtain ⟨hi, hle, hrest⟩ := decode_cons_eq_ok_iff.1 hdecode
      obtain ⟨-, hlen⟩ := encode_and_length_of_decodeOpcode hi
      have hge := List.drop_eq_nil_iff.1 hrest
      refine ⟨fun hundefined => ?_, ?_⟩
      · rw [decodeOpcode_eq_none_iff.2 hundefined] at hi
        cases hi
      · rw [← hlen, Instr.length]
        omega

/-- Settles O4: the eight bytes evaluate, whatever their operands. -/
theorem sourceCheckedOpcodesDecode : Obligations.SourceCheckedOpcodesDecode :=
  fun _ _ => ⟨rfl, rfl, rfl, rfl, rfl, rfl, rfl, rfl⟩

end Sys2Proof

namespace Sys2Proof.Machine

/-- Settles O5: `step` looks at the same three bytes at PC as `decode`. -/
theorem stepRunsTheDecodedInstruction : Obligations.StepRunsTheDecodedInstruction := by
  intro s i rest hready hdecode
  obtain ⟨hi, -, -⟩ := decode_cons_eq_ok_iff.1 hdecode
  exact step_of_instrAtPc hready hi

end Sys2Proof.Machine
end

section
/-! PROOF. The addressing modes (40_addressing_modes.md): what `address` and `modeCycles` count is what the
resolver answers and charges, mode by mode and for every mode; the statements about the three groups of modes
and about an operand follow. -/

open Sys2Proof.Spec

namespace Sys2Proof.Machine

section
variable (variant : Variant) (s : State)

/-- A pointer in page zero, as the statements count it (R120): the successor of 0xFF is 0x00 (D2). -/
theorem zpReadWord_toNat (b : Byte) : (zpReadWord b s).1.toNat = pointerAt s b.toNat := by
  have hlo : zext16 b = BitVec.ofNat 16 b.toNat := (BitVec.ofNat_toNat 16 b).symm
  have hhi : zext16 (b + 1) = BitVec.ofNat 16 ((b.toNat + 1) % 256) := (BitVec.ofNat_toNat 16 (b + 1)).symm
  rw [zpReadWord_value, leWord_toNat, hlo, hhi, pointerAt]

/-- The cycle of an index, as the statements count it (R101, R109, R110). -/
theorem indexPenalty_eq (base ea : Word) :
    indexPenalty variant base ea = penalty variant base.toNat ea.toNat := by
  cases variant with
  | read => simp [indexPenalty, penalty, crosses, pageCross_eq]
  | always => rfl

/-- The effective address of every mode, as a number (R105 to R113). -/
theorem effectiveAddress_toNat (m : MemOperand) :
    (effectiveAddress variant m s).1.toNat = address m s := by
  cases m with
  | zp b => exact zext16_toNat b
  | zpx b => exact (zext16_toNat (b + s.x)).trans (BitVec.toNat_add b s.x)
  | zpy b => exact (zext16_toNat (b + s.y)).trans (BitVec.toNat_add b s.y)
  | abs w => rfl
  | absx w => simp [effectiveAddress, address]
  | absy w => simp [effectiveAddress, address]
  | indx b => simp [effectiveAddress, address, zpReadWord_toNat, pointerAt]
  | indy b => simp [effectiveAddress, address, zpReadWord_toNat, pointerAt]

/-- The cycles that a resolver charges (R118). -/
theorem effectiveAddress_cyc (m : MemOperand) :
    (effectiveAddress variant m s).2.cyc = s.cyc - (modeCycles variant m s : Nat) := by
  have hea := effectiveAddress_toNat variant s m
  cases m with
  | zp b | abs w => rfl
  | zpx b | zpy b | indx b => simp [effectiveAddress, modeCycles]; omega
  | absx w | absy w =>
    rw [modeCycles, ← hea]
    simp [effectiveAddress, indexPenalty_eq]
    omega
  | indy b =>
    simp [effectiveAddress, modeCycles, indexPenalty_eq, zpReadWord_value]
    omega

/-- Resolving a mode passes its operand bytes, charges its cycles and writes nothing else (R100). -/
theorem effectiveAddress_state_eq (m : MemOperand) :
    (effectiveAddress variant m s).2 =
      { s with pc := pcPast s (modeBytes m), cyc := s.cyc - (modeCycles variant m s : Nat) } := by
  rw [effectiveAddress_passes, effectiveAddress_cyc, pcPast_eq]

/-- The operand in memory is read after its mode is resolved, for one cycle more (R116). -/
theorem readOperand_mem_eq (m : MemOperand) :
    readOperand (.mem m) s =
      (s.mem.read (effectiveAddress .read m s).1, (effectiveAddress .read m s).2.charge 1) :=
  Prod.ext (readOperand_mem_value m s) rfl

end

/-- The zero-page modes add modulo 256 (R105, R106, R107). -/
theorem address_lt_of_zeroPage {m : MemOperand} {b : Byte} (hm : m ∈ [MemOperand.zp b, .zpx b, .zpy b])
    (s : State) : address m s < 256 := by
  simp only [List.mem_cons, List.not_mem_nil, or_false] at hm
  obtain rfl | rfl | rfl := hm
  · exact b.isLt
  · exact Nat.mod_lt _ (by decide)
  · exact Nat.mod_lt _ (by decide)

/-- Settles O25: the resolver's laws for every mode, at the modes of one operand byte that add modulo 256. -/
theorem zeroPageModesStayInPageZero : Obligations.ZeroPageModesStayInPageZero := by
  intro variant b s m hm
  have hbytes : ∀ m ∈ [MemOperand.zp b, .zpx b, .zpy b], modeBytes m = 1 := by simp [modeBytes]
  exact ⟨effectiveAddress_toNat variant s m, address_lt_of_zeroPage hm s,
    hbytes m hm ▸ effectiveAddress_state_eq variant s m⟩

/-- Settles O26: the same laws at the modes of two operand bytes. -/
theorem absoluteModesAddModulo65536 : Obligations.AbsoluteModesAddModulo65536 := by
  intro variant w s m hm
  have hbytes : ∀ m ∈ [MemOperand.abs w, .absx w, .absy w], modeBytes m = 2 := by simp [modeBytes]
  exact ⟨effectiveAddress_toNat variant s m, hbytes m hm ▸ effectiveAddress_state_eq variant s m⟩

/-- Settles O27: the same laws at the modes with a pointer; that it wraps in page zero is `zpReadWord_toNat`. -/
theorem pointerModesReadPageZero : Obligations.PointerModesReadPageZero := by
  intro variant b s m hm
  have hbytes : ∀ m ∈ [MemOperand.indx b, .indy b], modeBytes m = 1 := by simp [modeBytes]
  exact ⟨effectiveAddress_toNat variant s m, zpReadWord_toNat s b,
    hbytes m hm ▸ effectiveAddress_state_eq variant s m⟩

/-- Settles O29: one more read, at the address of the mode. -/
theorem operandIsImmediateOrByteAtAddress : Obligations.OperandIsImmediateOrByteAtAddress := by
  refine ⟨fun v s => ?_, fun m s => ?_⟩
  · rw [pcPast_eq]
    rfl
  · have haddr : (effectiveAddress .read m s).1 = BitVec.ofNat 16 (address m s) := by
      rw [← effectiveAddress_toNat .read s m, BitVec.ofNat_toNat, BitVec.setWidth_eq]
    rw [readOperand_mem_eq, haddr, effectiveAddress_state_eq, State.charge]
    simp only [Nat.cast_add, Nat.cast_one, sub_sub]

end Sys2Proof.Machine
end

section
/-! PROOF. The sums of the ALU as whole numbers (41_alu_flags.md, R131 to R135): result and C are the unsigned
sum's, V is read off the three signs, and SBC is ADC of the complement. D is no operand of either. -/

namespace Sys2Proof.Machine

/-! ### ADC and SBC under another D -/

section
variable (s : State)

/-- A resolver looks at no flag, and passes them on (R100). -/
theorem readOperand_setP (o : ReadOperand) (p : Status) :
    readOperand o { s with p := p } = ((readOperand o s).1, { (readOperand o s).2 with p := p }) := by
  cases o with
  | im v => rfl
  | mem m => cases m <;> rfl

theorem addA_setD (o : ReadOperand) (d : Bool) :
    addA o { s with p := { s.p with d := d } } =
      { addA o s with p := { (addA o s).p with d := d }, decNotice := s.decNotice || d } := by
  simp only [addA_eq, readOperand_setP]
  rfl

theorem subtractA_setD (o : ReadOperand) (d : Bool) :
    subtractA o { s with p := { s.p with d := d } } =
      { subtractA o s with p := { (subtractA o s).p with d := d }, decNotice := s.decNotice || d } := by
  simp only [subtractA_eq, readOperand_setP]
  rfl

end

/-- Every form of ADC has the shape of rule R240. -/
theorem exec_of_mnemonic_adc {i : Instr} (h : i.mnemonic = .adc) :
    ∃ o, ∀ s, exec i s = .next (addA o s) := by
  cases i <;> cases h <;> exact ⟨_, fun _ => rfl⟩

/-- Every form of SBC has the shape of rule R241. -/
theorem exec_of_mnemonic_sbc {i : Instr} (h : i.mnemonic = .sbc) :
    ∃ o, ∀ s, exec i s = .next (subtractA o s) := by
  cases i <;> cases h <;> exact ⟨_, fun _ => rfl⟩

/-- Settles O21: neither the operand nor the sum of either shape takes D; only the notice does. -/
theorem decimalFlagChangesNoResult : Obligations.DecimalFlagChangesNoResult := by
  intro i s d hi
  simp only [List.mem_cons, List.not_mem_nil, or_false] at hi
  obtain hadc | hsbc := hi
  · obtain ⟨o, hrun⟩ := exec_of_mnemonic_adc hadc
    exact ⟨_, hrun s, by rw [hrun, addA_setD]⟩
  · obtain ⟨o, hrun⟩ := exec_of_mnemonic_sbc hsbc
    exact ⟨_, hrun s, by rw [hrun, subtractA_setD]⟩

/-! ### The sum of ADC -/

/-- Bit 7 of a byte, as the rules test it. -/
theorem and_0x80_ne_zero (b : Byte) : (b &&& 0x80 != 0) = b.msb := by
  have hmask : b &&& 0x80 = if b.getLsbD 7 then 0x80 else 0 := BitVec.and_twoPow b 7
  rw [hmask, BitVec.msb_eq_getLsbD_last]
  cases b.getLsbD 7 <;> rfl

section
variable (a m : Byte) (cin : Bool)

/-- The 9-bit sum is the result with C as its ninth bit (R132). -/
theorem adc_result_carry :
    (adc a m cin).result.toNat + 256 * (adc a m cin).carry.toNat = a.toNat + m.toNat + cin.toNat := by
  have hcin := cin.toNat_le
  have hresult : (adc a m cin).result.toNat = (a.toNat + m.toNat + cin.toNat) % 256 := rfl
  have hcarry : (adc a m cin).carry = decide (255 < a.toNat + m.toNat + cin.toNat) := rfl
  rw [hresult, hcarry]
  by_cases h : 255 < a.toNat + m.toNat + cin.toNat
  · rw [decide_eq_true h, Bool.toNat_true]
    omega
  · rw [decide_eq_false h, Bool.toNat_false]
    omega

/-- V is set when both operands have one sign and the result has the other (R133). -/
theorem adc_overflow_iff_signs :
    (adc a m cin).overflow = true ↔ a.msb = m.msb ∧ (adc a m cin).result.msb ≠ a.msb := by
  have hoverflow : (adc a m cin).overflow =
      ((a ^^^ (adc a m cin).result) &&& (m ^^^ (adc a m cin).result)).msb :=
    and_0x80_ne_zero _
  rw [hoverflow, BitVec.msb_and, BitVec.msb_xor, BitVec.msb_xor]
  cases a.msb <;> cases m.msb <;> cases (adc a m cin).result.msb <;> decide

/-- V is set when the signed sum does not fit 8 bits (R133). -/
theorem adc_overflow_iff_signed :
    (adc a m cin).overflow = true ↔
      a.toInt + m.toInt + cin.toNat < -128 ∨ 127 < a.toInt + m.toInt + cin.toNat := by
  have hcin := cin.toNat_le
  have hsum := adc_result_carry a m cin
  have hcarry := (adc a m cin).carry.toNat_le
  rw [adc_overflow_iff_signs]
  simp only [BitVec.msb_eq_decide, BitVec.toInt_eq_toNat_cond, ne_eq, decide_eq_decide]
  omega

end

/-- Settles O22, by the law of the 9-bit sum and the two forms of V. -/
theorem adcIsIntegerAddition : Obligations.AdcIsIntegerAddition := fun a m cin =>
  ⟨adc_result_carry a m cin, adc_overflow_iff_signed a m cin, adc_overflow_iff_signs a m cin⟩

/-! ### SBC as the sum with the complement -/

/-- The complement of a byte is its negative less one, as the signed sums read it (R131, R135). -/
theorem toInt_complement (m : Byte) : (~~~m).toInt = -m.toInt - 1 := by
  rw [BitVec.toInt_eq_toNat_cond, BitVec.toInt_eq_toNat_cond, BitVec.toNat_not]
  omega

section
variable (a m : Byte) (cin : Bool)

/-- The complement adds 255 - m (R135). -/
theorem sbc_result_carry :
    (sbc a m cin).result.toNat + 256 * (sbc a m cin).carry.toNat =
      a.toNat + (255 - m.toNat) + cin.toNat := by
  rw [sbc, adc_result_carry, BitVec.toNat_not]

/-- V is set when the signed difference does not fit 8 bits (R135). -/
theorem sbc_overflow_iff_signed :
    (sbc a m cin).overflow = true ↔
      a.toInt - m.toInt - (1 - (cin.toNat : Int)) < -128 ∨
        127 < a.toInt - m.toInt - (1 - (cin.toNat : Int)) := by
  rw [sbc, adc_overflow_iff_signed, toInt_complement]
  omega

end

/-- Settles O23: the sum is the difference and 256 more, and C says whether the difference itself is below 0. -/
theorem sbcIsIntegerSubtraction : Obligations.SbcIsIntegerSubtraction := by
  intro a m cin
  have hcin := cin.toNat_le
  have hsum := sbc_result_carry a m cin
  have hcarry := (sbc a m cin).carry.toNat_le
  refine ⟨?_, ?_, sbc_overflow_iff_signed a m cin⟩
  · omega
  · rw [← Bool.toNat_eq_one]
    omega

end Sys2Proof.Machine
end

section
/-! PROOF. Loads and stores (42_loads_stores.md): each form is one of the four shapes of these rules, and what
the shape does to the state is counted as the statements count it: flags, PC and cycles as numbers. -/

open Sys2Proof.Spec

namespace Sys2Proof.Machine

/-! ### Flags and cycles as the statements count them -/

/-- Z and N as a comparison with 0 and with 128 (R130). -/
theorem Status.setNZ_eq_nz (p : Status) (v : Byte) : p.setNZ v = nz p v := by
  have hn : v.getLsbD 7 = decide (128 ≤ v.toNat) :=
    (BitVec.msb_eq_getLsbD_last v).symm.trans (BitVec.msb_eq_decide v)
  rw [Status.setNZ, hn]
  rfl

/-- The cycles that an operand costs (R104, R116, R118). -/
theorem readOperand_cyc (o : ReadOperand) (s : State) :
    (readOperand o s).2.cyc = s.cyc - (operandCycles o s : Nat) := by
  cases o with
  | im v => rfl
  | mem m => rw [operandIsImmediateOrByteAtAddress.2 m s, operandCycles]

/-- A store as the statements count it (R117): one write at the resolved address, for one cycle more than the
resolver's. -/
theorem storeByte_eq_counted (v : Byte) (m : MemOperand) (s : State) :
    storeByte v m s =
      { s with
        mem := s.mem.write (effectiveAddress .always m s).1 v
        pc := pcPast s (modeBytes m)
        cyc := s.cyc - (modeCycles .always m s + 1 : Nat) } := by
  rw [storeByte_eq, effectiveAddress_cyc, pcPast_eq]
  simp only [Nat.cast_add, Nat.cast_one, sub_sub]

/-! ### The forms that load, as the shapes of their rules -/

section
variable {o : ReadOperand} {i : Instr} (s : State)

theorem exec_of_ldaForm (h : ldaForm o = some i) : exec i s = .next (loadA o s) := by
  obtain v | m := o
  · cases h; rfl
  · cases m <;> cases h <;> rfl

theorem exec_of_ldxForm (h : ldxForm o = some i) : exec i s = .next (loadX o s) := by
  obtain v | m := o
  · cases h; rfl
  · cases m <;> cases h <;> rfl

theorem exec_of_ldyForm (h : ldyForm o = some i) : exec i s = .next (loadY o s) := by
  obtain v | m := o
  · cases h; rfl
  · cases m <;> cases h <;> rfl

end

/-! ### Loads and stores, form by form -/

/-- Settles O28: the three shapes are one operand, whose cycles are counted, and Z and N of it. -/
theorem loadsWriteTheirRegister : Obligations.LoadsWriteTheirRegister := by
  intro o i s
  refine ⟨fun h => ?_, fun h => ?_, fun h => ?_⟩
  · rw [exec_of_ldaForm s h, loadA_eq, readOperand_cyc, Status.setNZ_eq_nz, pcPast_eq]
  · rw [exec_of_ldxForm s h, loadX_eq, readOperand_cyc, Status.setNZ_eq_nz, pcPast_eq]
  · rw [exec_of_ldyForm s h, loadY_eq, readOperand_cyc, Status.setNZ_eq_nz, pcPast_eq]

/-- Settles O30: the three shapes differ in the register stored. -/
theorem storesWriteTheRegister : Obligations.StoresWriteTheRegister := by
  intro m i s
  refine ⟨fun h => ?_, fun h => ?_, fun h => ?_⟩
  · rw [exec_of_staForm s h, storeByte_eq_counted]
  · rw [exec_of_stxForm s h, storeByte_eq_counted]
  · rw [exec_of_styForm s h, storeByte_eq_counted]

end Sys2Proof.Machine
end

section
/-! PROOF. Register transfers and the stack (43_transfers_stack.md): stack addresses as numbers and from an SP
that has moved, the cells and SP after a push, and what a pull finds there; the statements about single
instructions, about memory and about round trips are read off these. -/

open Sys2Proof.Spec

namespace Sys2Proof.Machine

/-! ### Stack addresses -/

/-- The stack byte `k` places above SP, as the statements count it (R180): page one, SP taken modulo 256. -/
theorem State.stackAddr_eq_ofNat (s : State) (k : Byte) :
    s.stackAddr k = BitVec.ofNat 16 (256 + (s.sp.toNat + k.toNat) % 256) := by
  have hpage := stackAddr_page s k
  have hlow : (s.stackAddr k).setWidth 8 = s.sp + k := by
    simp [State.stackAddr, zext16, BitVec.setWidth_or]
  rw [← BitVec.toNat_inj, BitVec.toNat_setWidth, BitVec.toNat_add] at hlow
  apply BitVec.eq_of_toNat_eq
  rw [BitVec.toNat_ofNat]
  omega

/-- Stack addresses from an SP that lies `j` lower. -/
theorem State.stackAddr_of_sp_eq_sub {s u : State} {j : Byte} (hsp : u.sp = s.sp - j) (k : Byte) :
    u.stackAddr k = s.stackAddr (k - j) := by
  have hsum : s.sp - j + k = s.sp + (k - j) := by bv_omega
  rw [State.stackAddr, State.stackAddr, hsp, hsum]

section
variable (s : State)

theorem State.push_stackAddr (v k : Byte) : (s.push v).stackAddr k = s.stackAddr (k - 1) :=
  State.stackAddr_of_sp_eq_sub rfl k

theorem State.pushWord_stackAddr (v : Word) (k : Byte) :
    (s.pushWord v).stackAddr k = s.stackAddr (k - 2) :=
  State.stackAddr_of_sp_eq_sub rfl k

/-! ### The cells of a push -/

theorem State.push_read_cell (v : Byte) : (s.push v).mem.read (s.stackAddr 0) = v :=
  s.mem.read_write_same _ v

theorem State.push_read_other (v : Byte) {addr : Word} (hne : addr ≠ s.stackAddr 0) :
    (s.push v).mem.read addr = s.mem.read addr :=
  s.mem.read_write_other v hne

theorem State.pushWord_read_hi (v : Word) : (s.pushWord v).mem.read (s.stackAddr 0) = hiByte v := by
  have hne : s.stackAddr 0 ≠ s.stackAddr (-1) := (stackAddr_inj s).not.2 (by decide)
  rw [State.pushWord_mem, Memory.read_write_other _ _ hne, Memory.read_write_same]

theorem State.pushWord_read_lo (v : Word) : (s.pushWord v).mem.read (s.stackAddr (-1)) = loByte v := by
  rw [State.pushWord_mem, Memory.read_write_same]

theorem State.pushWord_read_other (v : Word) {addr : Word} (hhi : addr ≠ s.stackAddr 0)
    (hlo : addr ≠ s.stackAddr (-1)) : (s.pushWord v).mem.read addr = s.mem.read addr := by
  rw [State.pushWord_mem, Memory.read_write_other _ _ hlo, Memory.read_write_other _ _ hhi]

/-- The byte that BRK pushes lies below its word (R318). -/
theorem State.push_pushWord_read_cell (v : Word) (w : Byte) :
    ((s.pushWord v).push w).mem.read (s.stackAddr (-2)) = w := by
  have hcell := (s.pushWord v).push_read_cell w
  rwa [State.pushWord_stackAddr] at hcell

theorem State.push_pushWord_read_other (v : Word) (w : Byte) {addr : Word} (hne : addr ≠ s.stackAddr (-2)) :
    ((s.pushWord v).push w).mem.read addr = (s.pushWord v).mem.read addr :=
  State.push_read_other _ w (by rwa [State.pushWord_stackAddr])

/-- JSR pushes the address of its last byte (R281). -/
theorem callSubroutine_mem (addr : Word) : (callSubroutine addr s).mem = (s.pushWord (s.pc + 1)).mem := by
  have hback : s.pc + 2 - 1 = s.pc + 1 := by bv_omega
  rw [callSubroutine_eq, hback]

end

/-- The return address that JSR and BRK push, as the statements count its bytes (R26, R183). -/
theorem bytes_pc_succ (w : Word) :
    (hiByte (w + 1)).toNat = (w.toNat + 1) % 65536 / 256 ∧ (loByte (w + 1)).toNat = (w.toNat + 1) % 256 := by
  have hsucc : (w + 1).toNat = (w.toNat + 1) % 65536 := BitVec.toNat_add w 1
  rw [hiByte_toNat, loByte_toNat, hsucc]
  omega

/-- Settles O18: one push, one pushed word, or the word and then a byte, and the cells of each. -/
theorem pushesChangeOnlyTheirStackCells : Obligations.PushesChangeOnlyTheirStackCells := by
  refine ⟨fun s => ?_, fun s => ?_, fun target s => ?_, fun s => ?_⟩
  · exact ⟨_, exec_pha s, s.push_read_cell s.a, fun _ => s.push_read_other s.a⟩
  · exact ⟨_, exec_php s, s.push_read_cell _, fun _ => s.push_read_other _⟩
  · obtain ⟨hhi, hlo⟩ := bytes_pc_succ s.pc
    refine ⟨_, exec_jsrAbs target s, ?_⟩
    rw [callSubroutine_mem, State.pushWord_read_hi, State.pushWord_read_lo]
    exact ⟨hhi, hlo, fun _ => s.pushWord_read_other _⟩
  · obtain ⟨hhi, hlo⟩ := bytes_pc_succ s.pc
    have hmem : (s.takeTrap.chargeNmos 1).mem = ((s.pushWord (s.pc + 1)).push s.p.pushed).mem := by
      rw [State.chargeNmos_mem, State.takeTrap_eq]
    have hword : ∀ {addr}, addr ≠ s.stackAddr (-2) →
        (s.takeTrap.chargeNmos 1).mem.read addr = (s.pushWord (s.pc + 1)).mem.read addr := fun hne => by
      rw [hmem, State.push_pushWord_read_other s _ _ hne]
    refine ⟨_, exec_brk s, ?_, ?_, ?_, fun addr h0 h1 h2 => ?_⟩
    · rw [hword ((stackAddr_inj s).not.2 (by decide)), State.pushWord_read_hi, hhi]
    · rw [hword ((stackAddr_inj s).not.2 (by decide)), State.pushWord_read_lo, hlo]
    · rw [hmem, State.push_pushWord_read_cell, Status.pushed]
    · rw [hword h2, State.pushWord_read_other s _ h0 h1]

/-! ### PushWord and PopWord -/

section
variable (s : State)

/-- PushWord is two pushes, high byte first (R183). -/
theorem State.pushWord_eq_push_push (v : Word) : s.pushWord v = (s.push (hiByte v)).push (loByte v) := by
  have hsp : s.sp - 2 = s.sp - 1 - 1 := by bv_omega
  have haddr : s.stackAddr (-1) = (s.push (hiByte v)).stackAddr 0 := (s.push_stackAddr (hiByte v) 0).symm
  simp only [State.pushWord, State.writeByte_sp, hsp, haddr]
  rfl

theorem State.popWord_value_eq :
    s.popWord.1 = leWord (s.mem.read (s.stackAddr 1)) (s.mem.read (s.stackAddr 2)) :=
  congrArg₂ leWord (congrArg s.mem.read (s.stackAddr_of_sp_add 2 (-1)))
    (congrArg s.mem.read (s.stackAddr_of_sp_add 2 0))

theorem State.pop_pop_value : s.pop.2.pop.1 = s.mem.read (s.stackAddr 2) :=
  s.pop.2.pop_value.trans (congrArg s.mem.read (s.stackAddr_of_sp_add 1 1))

/-- PopWord is two pops, low byte first (R184). -/
theorem State.popWord_eq_pop_pop : s.popWord = (leWord s.pop.1 s.pop.2.pop.1, s.pop.2.pop.2) := by
  have hsp : s.sp + 2 = s.sp + 1 + 1 := by bv_omega
  refine Prod.ext ?_ ?_
  · rw [State.popWord_value_eq, State.pop_pop_value, State.pop_value]
  · rw [State.popWord_state, ← State.charge_charge _ 1 1, hsp]
    rfl

end

/-- PopWord finds the word that lies where PushWord puts it (R183, R184). -/
theorem State.popWord_of_pushWord {s u : State} {v : Word} (hsp : u.sp = (s.pushWord v).sp)
    (hhi : u.mem.read (s.stackAddr 0) = (s.pushWord v).mem.read (s.stackAddr 0))
    (hlo : u.mem.read (s.stackAddr (-1)) = (s.pushWord v).mem.read (s.stackAddr (-1))) :
    u.popWord.1 = v ∧ u.popWord.2.sp = s.sp := by
  rw [State.pushWord_sp] at hsp
  constructor
  · rw [State.popWord_value_eq, State.stackAddr_of_sp_eq_sub hsp, State.stackAddr_of_sp_eq_sub hsp]
    exact (congrArg₂ leWord (hlo.trans (s.pushWord_read_lo v)) (hhi.trans (s.pushWord_read_hi v))).trans
      (leWord_bytes v)
  · rw [State.popWord_sp, hsp, BitVec.sub_add_cancel]

/-- Settles O49; the round trip is the one with nothing run between. -/
theorem popWordUndoesPushWord : Obligations.PopWordUndoesPushWord := fun s v =>
  ⟨s.pushWord_eq_push_push v, s.popWord_eq_pop_pop, State.popWord_of_pushWord rfl rfl rfl⟩

/-! ### Push and pull -/

/-- A pull finds the byte that lies where a push puts it (R181, R182). -/
theorem State.pulled_byte_of_push {s u : State} {v : Byte} (hsp : u.sp = (s.push v).sp)
    (hcell : u.mem.read (s.stackAddr 0) = (s.push v).mem.read (s.stackAddr 0)) :
    u.mem.read (u.stackAddr 1) = v ∧ u.sp + 1 = s.sp := by
  rw [State.push_sp] at hsp
  constructor
  · rw [State.stackAddr_of_sp_eq_sub hsp, sub_self]
    exact hcell.trans (s.push_read_cell v)
  · rw [hsp, BitVec.sub_add_cancel]

/-- Settles O52: the pull finds A or the packed status, and unpacking is `Status.pulled_pushed`. -/
theorem pullUndoesPush : Obligations.PullUndoesPush := by
  refine ⟨fun s t u hpush hsp hcell => ?_, fun s t u hpush hsp hcell => ?_⟩
  · injection hpush with ht
    subst ht
    obtain ⟨hbyte, hback⟩ := State.pulled_byte_of_push (v := s.a) hsp hcell
    refine ⟨_, exec_pla u, ?_⟩
    rw [pullA_eq, hbyte, hback, Status.setNZ_eq_nz]
    exact ⟨rfl, rfl, rfl⟩
  · injection hpush with ht
    subst ht
    obtain ⟨hbyte, hback⟩ := State.pulled_byte_of_push (v := s.p.pushed) hsp hcell
    refine ⟨_, exec_plp u, ?_⟩
    rw [pullStatus_eq, hbyte, hback, Status.pulled_pushed]
    exact ⟨rfl, rfl⟩

/-! ### Transfers, pushes and pulls, instruction by instruction -/

/-- Settles O31: Z and N as the statement counts them; the rest is the definitions. -/
theorem transfersCopyARegister : Obligations.TransfersCopyARegister := by
  intro s
  simp only [← Status.setNZ_eq_nz]
  exact ⟨rfl, rfl, rfl, rfl, rfl, rfl⟩

/-- The delta of rule R382, as the statements count it. -/
theorem nmosDelta_eq (s : State) (n : Nat) : nmosDelta s.cfg n = n * nmosOne s := by
  unfold nmosDelta nmosOne
  cases s.cfg.cycleTable <;> simp

/-- A push as the statements count it (R181, R382). -/
theorem State.push_chargeNmos_eq_counted (s : State) (v : Byte) :
    (s.push v).chargeNmos 1 =
      { s with
        mem := s.mem.write (s.stackAddr 0) v
        sp := BitVec.ofNat 8 (s.sp.toNat + 255)
        cyc := s.cyc - (1 + nmosOne s : Nat) } := by
  have hsp : BitVec.ofNat 8 (s.sp.toNat + 255) = s.sp - 1 := by bv_omega
  rw [State.chargeNmos, State.push_cfg, nmosDelta_eq, one_mul, hsp, Nat.cast_add, ← sub_sub]
  rfl

/-- Settles O32: the two pushes differ in their byte. -/
theorem pushesWriteAndLowerTheStack : Obligations.PushesWriteAndLowerTheStack := fun s =>
  ⟨congrArg _ (s.push_chargeNmos_eq_counted s.a), congrArg _ (s.push_chargeNmos_eq_counted s.p.pushed)⟩

/-- Settles O33: the shapes of the pulls, with address, SP and cycles counted. -/
theorem pullsReadAndRaiseTheStack : Obligations.PullsReadAndRaiseTheStack := by
  intro s
  have haddr : BitVec.ofNat 16 (256 + (s.sp.toNat + 1) % 256) = s.stackAddr 1 := (s.stackAddr_eq_ofNat 1).symm
  have hsp : BitVec.ofNat 8 (s.sp.toNat + 1) = s.sp + 1 := by bv_omega
  have hcyc : s.cyc - (2 + nmosOne s : Nat) = s.cyc - 1 - 1 - nmosDelta s.cfg 1 := by
    rw [nmosDelta_eq]
    omega
  simp only [haddr, hsp, hcyc, ← Status.setNZ_eq_nz, ← Status.pulled_eq]
  rw [exec_pla, exec_plp, pullA_eq, pullStatus_eq]
  exact ⟨rfl, rfl⟩

end Sys2Proof.Machine
end

section
/-! PROOF. Logical operations and the bit test (44_logical_bit.md): each form is one of the two shapes of these
rules, and what the shape does to the state is counted as the statements count it. -/

open Sys2Proof.Spec

namespace Sys2Proof.Machine

/-! ### The two shapes as the statements count them -/

section
variable (o : ReadOperand) (s : State)

/-- A combination into A, with flags, PC and cycles as numbers (R143). -/
theorem logicA_eq_counted (f : Byte → Byte → Byte) :
    logicA f o s =
      { s with
        a := f s.a (readOperand o s).1
        p := nz s.p (f s.a (readOperand o s).1)
        pc := pcPast s (operandBytes o)
        cyc := s.cyc - (operandCycles o s : Nat) } := by
  rw [logicA_eq, readOperand_cyc, Status.setNZ_eq_nz, pcPast_eq]

/-- The bit test, with PC and cycles as numbers; its Z is the comparison with 0 by definition (R137). -/
theorem testBits_eq_counted :
    testBits o s =
      { s with
        p := { s.p with
          z := decide (s.a &&& (readOperand o s).1 = 0)
          n := (readOperand o s).1.getLsbD 7
          v := (readOperand o s).1.getLsbD 6 }
        pc := pcPast s (operandBytes o)
        cyc := s.cyc - (operandCycles o s : Nat) } := by
  rw [testBits_eq, readOperand_cyc, pcPast_eq]
  rfl

end

/-! ### The forms, as the shapes of their rules -/

section
variable {o : ReadOperand} {i : Instr} (s : State)

theorem exec_of_andForm (h : andForm o = some i) : exec i s = .next (logicA (· &&& ·) o s) := by
  obtain v | m := o
  · cases h; rfl
  · cases m <;> cases h <;> rfl

theorem exec_of_oraForm (h : oraForm o = some i) : exec i s = .next (logicA (· ||| ·) o s) := by
  obtain v | m := o
  · cases h; rfl
  · cases m <;> cases h <;> rfl

theorem exec_of_eorForm (h : eorForm o = some i) : exec i s = .next (logicA (· ^^^ ·) o s) := by
  obtain v | m := o
  · cases h; rfl
  · cases m <;> cases h <;> rfl

/-- BIT has no immediate form (R203). -/
theorem exec_of_bitForm (h : bitForm o = some i) : exec i s = .next (testBits o s) := by
  obtain v | m := o
  · cases h
  · cases m <;> cases h <;> rfl

end

/-! ### Logical operations and the bit test, form by form -/

/-- Settles O34: the three shapes differ in the function that combines A with the operand. -/
theorem logicCombinesIntoA : Obligations.LogicCombinesIntoA := by
  intro o i s
  refine ⟨fun h => ?_, fun h => ?_, fun h => ?_⟩
  · rw [exec_of_andForm s h, logicA_eq_counted]
  · rw [exec_of_oraForm s h, logicA_eq_counted]
  · rw [exec_of_eorForm s h, logicA_eq_counted]

/-- Settles O35: both forms are the bit test of their operand. -/
theorem bitTestsWithoutChangingA : Obligations.BitTestsWithoutChangingA := by
  intro o i s h
  rw [exec_of_bitForm s h, testBits_eq_counted]

end Sys2Proof.Machine
end

section
/-! PROOF. Increments and decrements (45_incdec.md): the byte past and before another as a number, and what a
read-modify-write does to the state as the statements count it. -/

open Sys2Proof.Spec

namespace Sys2Proof.Machine

/-- The next byte, as the statements count it: modulo 256 (R220, R221, R224). -/
theorem byte_succ_eq_ofNat (v : Byte) : v + 1 = BitVec.ofNat 8 (v.toNat + 1) := by bv_omega

/-- The byte before, as the statements count it: one less is 255 more modulo 256 (R222, R223, R225). -/
theorem byte_pred_eq_ofNat (v : Byte) : v - 1 = BitVec.ofNat 8 (v.toNat + 255) := by bv_omega

/-- A read-modify-write, with PC and cycles as numbers: the read, the modify cycle and the write cost one cycle
each beside the addressing (R224, D5). -/
theorem modifyMem_eq_counted (f : Byte → Status → Byte × Status) (m : MemOperand) (s : State) :
    modifyMem f m s =
      { s with
        mem := s.mem.write (effectiveAddress .always m s).1
          (f (s.mem.read (effectiveAddress .always m s).1) s.p).1
        p := (f (s.mem.read (effectiveAddress .always m s).1) s.p).2
        pc := pcPast s (modeBytes m)
        cyc := s.cyc - (modeCycles .always m s + 3 : Nat) } := by
  have hcyc : s.cyc - (modeCycles .always m s : Nat) - 1 - 1 - 1 = s.cyc - (modeCycles .always m s + 3 : Nat) := by
    omega
  rw [modifyMem_eq, effectiveAddress_cyc, hcyc, pcPast_eq]

/-! ### Increments and decrements, form by form -/

/-- Settles O36: the byte past or before the register, counted, and Z and N of it. -/
theorem indexRegistersCountModulo256 : Obligations.IndexRegistersCountModulo256 := by
  intro s
  simp only [← byte_succ_eq_ofNat, ← byte_pred_eq_ofNat, ← Status.setNZ_eq_nz]
  exact ⟨exec_inx s, exec_iny s, exec_dex s, exec_dey s⟩

/-- Settles O37: every form is the read-modify-write of its cell with `inc` or `dec`. -/
theorem incAndDecCountACell : Obligations.IncAndDecCountACell := by
  intro m i s
  refine ⟨fun h => ?_, fun h => ?_⟩
  · rw [exec_of_incForm s h, modifyMem_eq_counted, ← byte_succ_eq_ofNat, inc_status, Status.setNZ_eq_nz]
    rfl
  · rw [exec_of_decForm s h, modifyMem_eq_counted, ← byte_pred_eq_ofNat, dec_status, Status.setNZ_eq_nz]
    rfl

end Sys2Proof.Machine
end

section
/-! PROOF. Addition, subtraction and compare (46_arith_compare.md): the sum, its flags and the flags of a
comparison as the statements count them, and each form as one of the three shapes of these rules. -/

open Sys2Proof.Spec

namespace Sys2Proof.Machine

/-! ### Sums and comparisons as the statements count them -/

/-- The sum with its result reduced modulo 256 in the open, and V as a proposition about the sign bits
(R132, R133). -/
theorem adc_eq_counted (a m : Byte) (cin : Bool) :
    let sum := a.toNat + m.toNat + cin.toNat
    let r := BitVec.ofNat 8 (sum % 256)
    adc a m cin = {
      result := r
      carry := decide (255 < sum)
      overflow := decide ((a ^^^ r) &&& (m ^^^ r) &&& 0x80 ≠ 0) } := by
  intro sum r
  have hresult : BitVec.ofNat 8 sum = r := BitVec.eq_of_toNat_eq (by simp [r])
  rw [adc, hresult]
  simp only [ne_eq, decide_not]
  rfl

/-- The flags of a sum, with Z and N as comparisons (R130, R132). -/
theorem Status.setSum_eq_nz (p : Status) (r : SumResult) :
    p.setSum r = nz { p with c := r.carry, v := r.overflow } r.result :=
  Status.setNZ_eq_nz _ _

/-- Bit 7 of a difference modulo 256, as a comparison (R136). -/
theorem getLsbD_seven_sub (reg m : Byte) :
    (reg - m).getLsbD 7 = decide (128 ≤ (reg.toNat + 256 - m.toNat) % 256) := by
  have hdiff : (reg - m).toNat = (reg.toNat + 256 - m.toNat) % 256 := by bv_omega
  rw [← hdiff]
  exact (BitVec.msb_eq_getLsbD_last _).symm.trans (BitVec.msb_eq_decide _)

/-- A comparison with a register, with N, PC and cycles as numbers; its C and Z are the order and equality by
definition (R136). -/
theorem compareWith_eq_counted (reg : Byte) (o : ReadOperand) (s : State) :
    compareWith reg o s =
      { s with
        p := { s.p with
          c := decide ((readOperand o s).1.toNat ≤ reg.toNat)
          z := decide (reg = (readOperand o s).1)
          n := decide (128 ≤ (reg.toNat + 256 - (readOperand o s).1.toNat) % 256) }
        pc := pcPast s (operandBytes o)
        cyc := s.cyc - (operandCycles o s : Nat) } := by
  rw [compareWith_eq, readOperand_cyc, Status.compare, getLsbD_seven_sub, pcPast_eq]
  rfl

/-! ### The forms, as the shapes of their rules -/

section
variable {o : ReadOperand} {i : Instr} (s : State)

theorem exec_of_adcForm (h : adcForm o = some i) : exec i s = .next (addA o s) := by
  obtain v | m := o
  · cases h; rfl
  · cases m <;> cases h <;> rfl

theorem exec_of_sbcForm (h : sbcForm o = some i) : exec i s = .next (subtractA o s) := by
  obtain v | m := o
  · cases h; rfl
  · cases m <;> cases h <;> rfl

theorem exec_of_cmpForm (h : cmpForm o = some i) : exec i s = .next (compareWith s.a o s) := by
  obtain v | m := o
  · cases h; rfl
  · cases m <;> cases h <;> rfl

theorem exec_of_cpxForm (h : cpxForm o = some i) : exec i s = .next (compareWith s.x o s) := by
  obtain v | m := o
  · cases h; rfl
  · cases m <;> cases h <;> rfl

theorem exec_of_cpyForm (h : cpyForm o = some i) : exec i s = .next (compareWith s.y o s) := by
  obtain v | m := o
  · cases h; rfl
  · cases m <;> cases h <;> rfl

end

/-! ### Addition, subtraction and compare, form by form -/

/-- Settles O38: every form is the shape of ADC, and its sum is counted. -/
theorem adcAddsWithCarry : Obligations.AdcAddsWithCarry := by
  intro o i s h
  rw [exec_of_adcForm s h, addA_eq, readOperand_cyc, Status.setSum_eq_nz, adc_eq_counted, pcPast_eq]

/-- Settles O39: SBC is the sum with the complement, which adds 255 less the operand. -/
theorem sbcSubtractsWithBorrow : Obligations.SbcSubtractsWithBorrow := by
  intro o i s h
  rw [exec_of_sbcForm s h, subtractA_eq, readOperand_cyc, Status.setSum_eq_nz, sbc, adc_eq_counted,
    BitVec.toNat_not, pcPast_eq]

/-- Settles O40: the three shapes differ in the register that is compared. -/
theorem comparesSetOrderFlags : Obligations.ComparesSetOrderFlags := by
  intro o i s
  refine ⟨fun h => ?_, fun h => ?_, fun h => ?_⟩
  · rw [exec_of_cmpForm s h, compareWith_eq_counted]
  · rw [exec_of_cpxForm s h, compareWith_eq_counted]
  · rw [exec_of_cpyForm s h, compareWith_eq_counted]

end Sys2Proof.Machine
end

section
/-! PROOF. Shifts and rotates (47_shifts.md): each ALU function as its result and carry in numbers, and rule
ShiftOp once for whatever function of the operand and the status is counted so. -/

open Sys2Proof.Spec

namespace Sys2Proof.Machine

/-! ### The ALU functions as the statements count them -/

/-- Bit 7 as a comparison. -/
theorem getLsbD_seven_eq (v : Byte) : v.getLsbD 7 = decide (128 ≤ v.toNat) :=
  (BitVec.msb_eq_getLsbD_last v).symm.trans (BitVec.msb_eq_decide v)

/-- Bit 0 as a remainder. -/
theorem getLsbD_zero_eq (v : Byte) : v.getLsbD 0 = decide (v.toNat % 2 = 1) := by
  simp [BitVec.getLsbD, Nat.testBit_zero]

theorem bitByte_toNat (c : Bool) : (bitByte c).toNat = c.toNat := by
  cases c <;> rfl

/-- The result and the status of a shift whose result and carry out are counted. -/
def countedShift (result : Nat → Nat → Nat) (carry : Nat → Bool) (m : Byte) (p : Status) : Byte × Status :=
  let r := BitVec.ofNat 8 (result m.toNat p.c.toNat)
  (r, nz { p with c := carry m.toNat } r)

section
variable (m : Byte) (p : Status)

theorem shiftLeft_one_eq_ofNat : m <<< 1 = BitVec.ofNat 8 (2 * m.toNat % 256) := by
  apply BitVec.eq_of_toNat_eq
  simp [Nat.shiftLeft_eq, Nat.mul_comm]

theorem shiftRight_one_eq_ofNat : m >>> 1 = BitVec.ofNat 8 (m.toNat / 2) := by
  apply BitVec.eq_of_toNat_eq
  simp [Nat.shiftRight_eq_div_pow]
  omega

/-- A rotate to the left puts the carry into the bit that the shift leaves 0 (R140). -/
theorem rotateLeft_eq_ofNat (c : Bool) :
    m <<< 1 ||| bitByte c = BitVec.ofNat 8 ((2 * m.toNat + c.toNat) % 256) := by
  have hfree : m <<< 1 &&& bitByte c = 0 := by
    ext k hk
    cases k <;> simp
  rw [← BitVec.add_eq_or_of_and_eq_zero _ _ hfree, shiftLeft_one_eq_ofNat]
  apply BitVec.eq_of_toNat_eq
  simp [bitByte_toNat]

/-- A rotate to the right puts the carry into the bit that the shift leaves 0 (R141). -/
theorem rotateRight_eq_ofNat (c : Bool) :
    m >>> 1 ||| bitByte c <<< 7 = BitVec.ofNat 8 (m.toNat / 2 + 128 * c.toNat) := by
  have hfree : m >>> 1 &&& bitByte c <<< 7 = 0 := by
    ext k hk
    interval_cases k <;> simp
  rw [← BitVec.add_eq_or_of_and_eq_zero _ _ hfree, shiftRight_one_eq_ofNat, BitVec.ofNat_add]
  cases c <;> rfl

theorem asl_eq_counted : asl m p = countedShift (fun v _ => 2 * v % 256) (fun v => decide (128 ≤ v)) m p := by
  rw [asl, Status.setNZ_eq_nz, getLsbD_seven_eq, shiftLeft_one_eq_ofNat]
  rfl

/-- The N that LSR clears is bit 7 of its result too, which is less than 128 (R139). -/
theorem lsr_eq_counted : lsr m p = countedShift (fun v _ => v / 2) (fun v => decide (v % 2 = 1)) m p := by
  have hn : false = decide (128 ≤ (m >>> 1).toNat) := by
    have := m.isLt
    simp [Nat.shiftRight_eq_div_pow]
    omega
  rw [lsr, getLsbD_zero_eq, hn, shiftRight_one_eq_ofNat]
  rfl

theorem rol_eq_counted :
    rol m p = countedShift (fun v c => (2 * v + c) % 256) (fun v => decide (128 ≤ v)) m p := by
  rw [rol, Status.setNZ_eq_nz, getLsbD_seven_eq, rotateLeft_eq_ofNat]
  rfl

theorem ror_eq_counted :
    ror m p = countedShift (fun v c => v / 2 + 128 * c) (fun v => decide (v % 2 = 1)) m p := by
  rw [ror, Status.setNZ_eq_nz, getLsbD_zero_eq, rotateRight_eq_ofNat]
  rfl

end

/-! ### Shifts and rotates, form by form -/

/-- An instruction that is ShiftOp in all its forms follows the rule of its ALU function. -/
theorem shiftRule_of_counted {f : Byte → Status → Byte × Status} {acc : Instr}
    {form : MemOperand → Option Instr} {result : Nat → Nat → Nat} {carry : Nat → Bool}
    (hf : ∀ m p, f m p = countedShift result carry m p) (hacc : ∀ s, exec acc s = .next (modifyA f s))
    (hform : ∀ {m i} (s : State), form m = some i → exec i s = .next (modifyMem f m s)) :
    ShiftRule acc form result carry := by
  refine ⟨fun s => ?_, fun m i s hi => ?_⟩
  · rw [hacc, modifyA_eq, hf]
    rfl
  · rw [hform s hi, modifyMem_eq_counted, hf]
    rfl

/-- Settles O41: the four instructions are ShiftOp with their ALU function. -/
theorem shiftsAndRotatesByRule : Obligations.ShiftsAndRotatesByRule :=
  ⟨shiftRule_of_counted asl_eq_counted exec_aslAcc exec_of_aslForm,
    shiftRule_of_counted lsr_eq_counted exec_lsrAcc exec_of_lsrForm,
    shiftRule_of_counted rol_eq_counted exec_rolAcc exec_of_rolForm,
    shiftRule_of_counted ror_eq_counted exec_rorAcc exec_of_rorForm⟩

end Sys2Proof.Machine
end

section
/-! PROOF. Jumps, subroutine calls and branches (48_jumps_branches.md): where each finds its target, and JSR,
RTS and a branch as the statements count them; a return finds the word that its call pushed. -/

open Sys2Proof.Spec

namespace Sys2Proof

/-- A word read from memory, as the statements count it (R55). -/
theorem leWord_eq_ofNat (lo hi : Byte) : leWord lo hi = BitVec.ofNat 16 (lo.toNat + 256 * hi.toNat) := by
  rw [← leWord_toNat, BitVec.ofNat_toNat, BitVec.setWidth_eq]

/-- At the last byte of a page, the successor that R114 keeps in the page is the first byte of it. -/
theorem succ_in_page_of_page_end {ptr : Word} (h : ptr.toNat % 256 = 255) :
    (ptr &&& 0xFF00) ||| ((ptr + 1) &&& 0x00FF) = BitVec.ofNat 16 (ptr.toNat - 255) := by
  have hlow : (ptr + 1) &&& (0x00FF : Word) = 0 := by
    apply BitVec.eq_of_toNat_eq
    rw [BitVec.toNat_and]
    exact (Nat.and_two_pow_sub_one_eq_mod _ 8).trans (by bv_omega)
  rw [hlow, and_pageMask]
  apply BitVec.eq_of_toNat_eq
  simp [Nat.shiftLeft_eq, Nat.shiftRight_eq_div_pow]
  omega

end Sys2Proof

namespace Sys2Proof.Machine

/-! ### Jumps -/

/-- The target of JMP (ind) is the word whose two bytes lie at the pointer and at its successor, which
JMP_IND_PAGE_WRAP keeps in the page (R114). -/
theorem indirectTarget_value (ptr : Word) (s : State) :
    (indirectTarget ptr s).1 =
      leWord (s.mem.read ptr)
        (s.mem.read (if s.cfg.jmpIndPageWrap = true ∧ ptr.toNat % 256 = 255 then
          BitVec.ofNat 16 (ptr.toNat - 255) else ptr + 1)) := by
  by_cases hend : ptr.toNat % 256 = 255
  · simp only [indirectTarget, State.fetched_cfg, hend, and_true, succ_in_page_of_page_end hend]
    split <;> rfl
  · rw [indirectTarget_of_not_page_end hend, State.readWord_value, if_neg fun h => hend h.2]
    rfl

/-- Settles O42: the page-wrapped successor of the pointer is the next address but at the end of a page. -/
theorem jumpsSetTheProgramCounter : Obligations.JumpsSetTheProgramCounter := by
  refine ⟨exec_jmpAbs, fun ptr s => ?_⟩
  have hsucc : ptr + 1 = BitVec.ofNat 16 ((ptr.toNat + 1) % 65536) := by bv_omega
  rw [exec_jmpInd, jumpIndirect_eq, indirectTarget_value, leWord_eq_ofNat, hsucc, ← apply_ite (BitVec.ofNat 16),
    sub_sub]
  rfl

/-! ### Subroutine calls -/

/-- The return address that JSR and BRK push, byte by byte from its number (R26, R183). -/
theorem bytes_pc_succ_eq_ofNat (w : Word) :
    hiByte (w + 1) = BitVec.ofNat 8 ((w.toNat + 1) % 65536 / 256) ∧
      loByte (w + 1) = BitVec.ofNat 8 ((w.toNat + 1) % 65536 % 256) := by
  have hsucc : (w + 1).toNat = (w.toNat + 1) % 65536 := BitVec.toNat_add w 1
  constructor <;> apply BitVec.eq_of_toNat_eq
  · rw [hiByte_toNat, hsucc, BitVec.toNat_ofNat]
    omega
  · rw [loByte_toNat, hsucc, BitVec.toNat_ofNat]
    omega

/-- Settles O43: one pushed word, the address of JSR's last byte, with its cells and its bytes counted. -/
theorem jsrPushesItsLastByteAddress : Obligations.JsrPushesItsLastByteAddress := by
  intro target s
  have hhiCell : s.stackAddr 0 = BitVec.ofNat 16 (256 + s.sp.toNat) := by
    simp [State.stackAddr_eq_ofNat, Nat.mod_eq_of_lt s.sp.isLt]
  have hloCell : s.stackAddr (-1) = BitVec.ofNat 16 (256 + (s.sp.toNat + 255) % 256) := s.stackAddr_eq_ofNat (-1)
  have hsp : s.sp - 2 = BitVec.ofNat 8 (s.sp.toNat + 254) := by bv_omega
  have hlast : s.pc + 2 - 1 = s.pc + 1 := by bv_omega
  obtain ⟨hhi, hlo⟩ := bytes_pc_succ_eq_ofNat s.pc
  rw [exec_jsrAbs, callSubroutine_eq, hlast, State.pushWord_mem, hhi, hlo, hhiCell, hloCell, hsp, sub_sub, sub_sub]
  rfl

/-- Settles O44: one popped word, with its cells and its value counted. -/
theorem rtsReturnsOnePastThePoppedWord : Obligations.RtsReturnsOnePastThePoppedWord := by
  intro s
  have hsp : s.sp + 2 = BitVec.ofNat 8 (s.sp.toNat + 2) := by bv_omega
  have hpc : s.popWord.1 + 1 = BitVec.ofNat 16 ((s.popWord.1.toNat + 1) % 65536) := by bv_omega
  have hcyc : s.cyc - 2 - 2 - nmosDelta s.cfg 1 = s.cyc - (4 + nmosOne s : Nat) := by
    rw [nmosDelta_eq]
    omega
  rw [exec_rts, returnFromSubroutine_eq, hsp, hpc, State.popWord_value_eq, leWord_toNat, State.stackAddr_eq_ofNat,
    State.stackAddr_eq_ofNat, ← hcyc]
  rfl

/-- Settles O50: RTS pops the word that JSR pushed, and goes on one past it. -/
theorem rtsResumesAfterJsr : Obligations.RtsResumesAfterJsr := by
  intro target s t u hjsr hsp hhi hlo
  injection hjsr with ht
  subst ht
  rw [callSubroutine_mem] at hhi hlo
  have hpushed : u.sp = (s.pushWord (s.pc + 1)).sp := by rw [hsp, callSubroutine_eq, State.pushWord_sp]
  obtain ⟨hword, hback⟩ := State.popWord_of_pushWord hpushed hhi hlo
  refine ⟨_, exec_rts u, ?_⟩
  rw [State.popWord_sp] at hback
  rw [returnFromSubroutine_eq, hback, hword, pcPast_eq]
  exact ⟨BitVec.add_assoc s.pc 1 1, rfl⟩

/-! ### Branches -/

/-- The target of a branch, as the statements count it (R115). -/
theorem relativeTarget_toNat (disp : Byte) (s : State) :
    (relativeTarget disp s).1.toNat = branchTarget disp s := by
  have hdisp : (sext16 disp).toNat = (disp.toInt % 65536).toNat := BitVec.toNat_ofInt disp.toInt
  have hsum : (relativeTarget disp s).1.toNat = ((s.pc.toNat + 1) % 65536 + (sext16 disp).toNat) % 65536 :=
    (BitVec.toNat_add _ _).trans (by rw [State.fetched_pc, BitVec.toNat_add]; rfl)
  rw [hsum, hdisp, branchTarget]
  omega

/-- A branch as the statements count it (R283). -/
theorem branchIf_eq_counted (cond : Bool) (disp : Byte) (s : State) :
    branchIf cond disp s =
      { s with
        pc := if cond then BitVec.ofNat 16 (branchTarget disp s) else pcPast s 1
        cyc := s.cyc - (1 + branchCycles cond disp s : Nat) } := by
  have hnext : (s.pc + 1).toNat = (s.pc.toNat + 1) % 65536 := BitVec.toNat_add s.pc 1
  rw [branchIf_eq]
  cases cond with
  | false => simp [branchCycles, pcPast_eq]
  | true =>
    have htarget : (relativeTarget disp s).1 = BitVec.ofNat 16 (branchTarget disp s) := by
      rw [← relativeTarget_toNat, BitVec.ofNat_toNat, BitVec.setWidth_eq]
    have hcross : (if pageCross (s.pc + 1) (relativeTarget disp s).1 then 1 else 0) =
        crosses ((s.pc.toNat + 1) % 65536) (branchTarget disp s) := by
      rw [← hnext, ← relativeTarget_toNat]
      exact indexPenalty_eq .read _ _
    simp only [↓reduceIte, branchCycles]
    rw [hcross, htarget, Nat.cast_add, Nat.cast_add, Nat.cast_one, sub_sub, sub_sub]

theorem branchRule_of_branchIf {branch : Byte → Instr} {cond : State → Bool}
    (h : ∀ disp s, exec (branch disp) s = .next (branchIf (cond s) disp s)) : BranchRule branch cond := by
  intro disp s
  rw [h, branchIf_eq_counted]

/-- Settles O45: the eight are one shape on eight conditions. -/
theorem branchesFollowTheirFlag : Obligations.BranchesFollowTheirFlag :=
  ⟨branchRule_of_branchIf exec_bcc, branchRule_of_branchIf exec_bcs, branchRule_of_branchIf exec_beq,
    branchRule_of_branchIf exec_bne, branchRule_of_branchIf exec_bmi, branchRule_of_branchIf exec_bpl,
    branchRule_of_branchIf exec_bvc, branchRule_of_branchIf exec_bvs⟩

end Sys2Proof.Machine
end

section
/-! PROOF. Flag operations, the trap and its return (49_flags_nop_brk_rti.md, 60_exceptions.md): the vector lies
outside the page that the trap pushes to, and the return finds the three bytes that the trap pushed. -/

open Sys2Proof.Spec

namespace Sys2Proof.Machine

/-- Settles O46: each is its definition. -/
theorem flagOperationsWriteOneFlag : Obligations.FlagOperationsWriteOneFlag := fun s =>
  ⟨exec_clc s, exec_cld s, exec_cli s, exec_clv s, exec_sec s, exec_sed s, exec_sei s, exec_nop s⟩

/-! ### The trap -/

section
variable (s : State)

/-- Outside page one no push changes a cell (R180). -/
theorem State.push_pushWord_read_off_page_one (v : Word) (w : Byte) {addr : Word}
    (hpage : addr.toNat / 256 ≠ 1) : ((s.pushWord v).push w).mem.read addr = s.mem.read addr := by
  have hne : ∀ k, addr ≠ s.stackAddr k := fun k h => hpage (h ▸ stackAddr_page s k)
  rw [State.push_pushWord_read_other s v w (hne _), State.pushWord_read_other s v (hne _) (hne _)]

/-- Trap entry by the bytes that it pushes, the status last, and those that it finds at the vector, where they
were before it pushed (R60, R183, R344). -/
theorem State.takeTrap_eq_bytes :
    s.takeTrap =
      { s with
        mem := ((s.mem.write (s.stackAddr 0) (hiByte (s.pc + 1))).write (s.stackAddr (-1))
          (loByte (s.pc + 1))).write (s.stackAddr (-2)) s.p.pushed
        p := { s.p with i := true, b := true }
        sp := s.sp - 3
        pc := leWord (s.mem.read 0xFFFE) (s.mem.read 0xFFFF)
        cyc := s.cyc - 5 } := by
  have hlo := s.push_pushWord_read_off_page_one (s.pc + 1) s.p.pushed (addr := brkVector) (by decide)
  have hhi := s.push_pushWord_read_off_page_one (s.pc + 1) s.p.pushed (addr := brkVector + 1) (by decide)
  rw [State.takeTrap_eq, State.readWord_value, hlo, hhi, State.push_mem, State.pushWord_mem,
    State.pushWord_stackAddr, sub_sub, sub_sub]
  rfl

/-- Trap return by the bytes that it pops, the status first (R184, R346). -/
theorem State.returnFromTrap_eq_bytes :
    s.returnFromTrap =
      { s with
        p := Status.pulled (s.mem.read (s.stackAddr 1))
        sp := s.sp + 3
        pc := leWord (s.mem.read (s.stackAddr 2)) (s.mem.read (s.stackAddr 3))
        cyc := s.cyc - 3 } := by
  have habove : ∀ k, s.pop.2.stackAddr k = s.stackAddr (1 + k) := s.stackAddr_of_sp_add 1
  rw [State.returnFromTrap_eq, State.popWord_value_eq, habove, habove, sub_sub]
  rfl

end

/-- Settles O47: a cell `k` below the stack pointer is one `256 - k` above it. -/
theorem brkEntersTheTrap : Obligations.BrkEntersTheTrap := by
  intro s back cell
  have hcell : ∀ k : Byte, s.stackAddr (-k) = cell k.toNat := by
    intro k
    have hlow : (s.sp.toNat + (-k).toNat) % 256 = (s.sp.toNat + 256 - k.toNat) % 256 := by bv_omega
    rw [State.stackAddr_eq_ofNat, hlow]
  have hsp : s.sp - 3 = BitVec.ofNat 8 (s.sp.toNat + 253) := by bv_omega
  have hcyc : s.cyc - 5 - nmosDelta s.cfg 1 = s.cyc - (5 + nmosOne s : Nat) := by
    rw [nmosDelta_eq]
    omega
  obtain ⟨hhi, hlo⟩ := bytes_pc_succ_eq_ofNat s.pc
  rw [exec_brk, State.takeTrap_eq_bytes, hhi, hlo, hcell 1, hcell 2, hsp, leWord_eq_ofNat, ← hcyc,
    show s.stackAddr 0 = cell 0 from hcell 0]
  rfl

/-- Settles O48: the popped bytes, with their cells counted. -/
theorem rtiReturnsFromTheTrap : Obligations.RtiReturnsFromTheTrap := by
  intro s at'
  have hcell : ∀ k : Byte, s.mem.read (s.stackAddr k) = at' k.toNat := fun k => by rw [State.stackAddr_eq_ofNat]
  have hsp : s.sp + 3 = BitVec.ofNat 8 (s.sp.toNat + 3) := by bv_omega
  have hcyc : s.cyc - 3 - nmosDelta s.cfg 2 = s.cyc - (3 + 2 * nmosOne s : Nat) := by
    rw [nmosDelta_eq]
    omega
  rw [exec_rti, State.returnFromTrap_eq_bytes, hcell, hcell, hcell, hsp, leWord_eq_ofNat, Status.pulled_eq, ← hcyc]
  rfl

/-- Settles O51: the return pops the status, then the word, and there lies what the trap pushed. -/
theorem rtiResumesAfterBrk : Obligations.RtiResumesAfterBrk := by
  intro s t u hbrk hsp hhi hlo hstatus
  injection hbrk with ht
  subst ht
  rw [State.chargeNmos_sp, State.takeTrap_eq] at hsp
  rw [State.chargeNmos_mem, State.takeTrap_eq] at hhi hlo hstatus
  rw [State.push_pushWord_read_other s _ _ ((stackAddr_inj s).not.2 (by decide)), State.pushWord_read_hi] at hhi
  rw [State.push_pushWord_read_other s _ _ ((stackAddr_inj s).not.2 (by decide)), State.pushWord_read_lo] at hlo
  rw [State.push_pushWord_read_cell] at hstatus
  have hcell : ∀ k, u.stackAddr k = s.stackAddr (k - 3) := State.stackAddr_of_sp_eq_sub hsp
  refine ⟨_, exec_rti u, ?_⟩
  rw [State.returnFromTrap_eq_bytes, hcell, hcell, hcell, hsp, BitVec.sub_add_cancel]
  refine ⟨?_, rfl, ?_⟩
  · rw [pcPast_eq]
    exact (congrArg₂ leWord hlo hhi).trans (leWord_bytes (s.pc + 1))
  · exact (congrArg Status.pulled hstatus).trans (Status.pulled_pushed s.p)

end Sys2Proof.Machine
end

section
/-! PROOF. The outcomes of a step (60_exceptions.md, R340): every instruction completes, so only an undefined
opcode byte faults. And its cost (R383): what the accesses and charges of each form add up to is the table's entry,
the nmos column being the doc column and a delta. -/

open Sys2Proof.Spec

namespace Sys2Proof.Machine

/-! ### Outcomes -/

/-- Settles O7: every arm of `exec` answers a next state, and no shape names the run state. -/
theorem everyInstructionAnswersANextState : Obligations.EveryInstructionAnswersANextState := by
  intro i s
  have hruns : ∃ t, exec i s = .next t ∧ t.runState = s.runState := by
    cases i <;> exact ⟨_, rfl, by simp⟩
  obtain ⟨t, hrun, hrunState⟩ := hruns
  exact ⟨t, hrun, hrunState, exec_keeps_cfg hrun⟩

theorem step_of_not_ready {s : State} (h : s.runState ≠ .ready) : step s = .refused .notReady := by
  unfold step
  split
  next hready => exact absurd hready h
  · rfl
  · rfl

/-- Settles O6: rule R79 lists the bytes that decode to nothing (`decodeOpcode_eq_none_iff`). -/
theorem stepOutcomesAreExactlyThree : Obligations.StepOutcomesAreExactlyThree := by
  intro s
  refine ⟨fun hready hbyte => ?_, fun hready hbyte => ?_, step_of_not_ready⟩
  · have hnone : s.instrAtPc = none := decodeOpcode_eq_none_iff.2 hbyte
    simp only [step, hready, hnone]
    rfl
  · obtain ⟨i, hi⟩ := exists_decodeOpcode_eq_some hbyte (s.mem.read (s.pc + 1)) (s.mem.read (s.pc + 2))
    obtain ⟨t, hrun, hrunState, -⟩ := everyInstructionAnswersANextState i (s.fetched 1)
    exact ⟨t, (step_of_instrAtPc hready hi).trans hrun, hrunState.trans hready⟩

/-! ### Cost -/

theorem crosses_le_one (base ea : Nat) : crosses base ea ≤ 1 := by
  unfold crosses
  split <;> omega

/-- What column `nmos` has over column `doc` (R382). -/
def nmosExtra (i : Instr) : Nat :=
  match i.mnemonic with
  | .pha | .php | .pla | .plp | .rts | .brk => 1
  | .rti => 2
  | _ => 0

theorem nmosCycles_eq (i : Instr) : nmosCycles i = docCycles i + nmosExtra i := by
  cases i <;> rfl

/-- The cost by column `doc` and the delta of rule R382. -/
theorem cost_eq (i : Instr) (s : State) :
    cost i s = docCycles i + nmosExtra i * nmosOne s + addedCycles i s := by
  unfold cost nmosOne
  cases s.cfg.cycleTable <;> simp [nmosCycles_eq]

/-- What an instruction charges after its opcode fetch is its cost less that fetch (R381). -/
theorem exec_cyc (i : Instr) (s : State) : ∃ t, exec i s = .next t ∧ t.cyc = s.cyc + 1 - (cost i s : Nat) := by
  cases i <;> refine ⟨_, rfl, ?_⟩
  case bcc | bcs | beq | bmi | bne | bpl | bvc | bvs =>
    rw [branchIf_eq_counted]
    simp [cost_eq, docCycles, nmosExtra, Instr.mnemonic, addedCycles]
    omega
  -- Every other form costs its operand, its accesses and its delta, which the laws of the shapes count.
  all_goals
    simp [cost_eq, docCycles, nmosExtra, Instr.mnemonic, addedCycles, nmosDelta_eq, readOperand_cyc,
      effectiveAddress_cyc, operandCycles, modeCycles, penalty, address, zpReadWord_toNat, effectiveAddress_toNat]
    omega

theorem branchCycles_le_two (taken : Bool) (disp : Byte) (s : State) : branchCycles taken disp s ≤ 2 := by
  have := crosses_le_one ((s.pc.toNat + 1) % 65536) (branchTarget disp s)
  unfold branchCycles
  split <;> omega

theorem two_le_docCycles (i : Instr) : 2 ≤ docCycles i := by
  cases i <;> simp [docCycles]

/-- An instruction that costs 7 cycles in column `nmos` adds none, one that indexes and may cross a page costs 5 at
most, and a branch 2. -/
theorem cost_bounds (i : Instr) (s : State) : 2 ≤ cost i s ∧ cost i s ≤ 7 := by
  have hleast := two_le_docCycles i
  have hone : nmosOne s ≤ 1 := by
    unfold nmosOne
    split <;> decide
  rw [cost_eq]
  refine ⟨by omega, ?_⟩
  cases i <;> simp [docCycles, nmosExtra, Instr.mnemonic, addedCycles]
  case bcc | bcs | beq | bmi | bne | bpl | bvc | bvs =>
    exact (Nat.add_le_add_left (branchCycles_le_two _ _ s) 2).trans (by decide)
  case pha | php | pla | plp | rts | brk | rti => omega
  all_goals exact (Nat.add_le_add_left (crosses_le_one _ _) _).trans (by decide)

/-- Settles O53: the fetch costs the cycle that `exec_cyc` leaves out. -/
theorem cycleCostsFollowTheTable : Obligations.CycleCostsFollowTheTable := by
  intro s i hready hi
  obtain ⟨t, hrun, hcyc⟩ := exec_cyc i (s.fetched 1)
  refine ⟨t, (step_of_instrAtPc hready hi).trans hrun, ?_, cost_bounds i _⟩
  rw [hcyc, State.fetched_cyc, Nat.cast_one, sub_add_cancel]

end Sys2Proof.Machine
end

section
/-! PROOF. The execute loop (rules R374 to R379): a step of a ready core keeps it ready and charges at least 2
and at most 7 cycles, or is a DecodeError; so the loop never runs out of fuel, and its last step is the one that
spends the counter. -/

open Sys2Proof.Spec

namespace Sys2Proof.Machine

/-! ### One step of the loop -/

/-- All that a step of a ready core can do (R340, R383). -/
theorem step_of_ready {s : State} (hready : s.runState = .ready) :
    (∃ t, step s = .next t ∧ t.runState = .ready ∧ t.cyc + 2 ≤ s.cyc ∧ s.cyc ≤ t.cyc + 7) ∨
      step s = .fault (.decodeError (s.mem.read s.pc) s.pc) := by
  obtain ⟨hundefined, hdefined, -⟩ := stepOutcomesAreExactlyThree s
  cases hi : s.instrAtPc with
  | none => exact .inr (hundefined hready (decodeOpcode_eq_none_iff.1 hi))
  | some i =>
    obtain ⟨t, hstep, hcyc, hleast, hmost⟩ := cycleCostsFollowTheTable s i hready hi
    obtain ⟨u, hrun, hrunState, -⟩ := everyInstructionAnswersANextState i (s.fetched 1)
    have hsame : Host.Outcome.next t = .next u := (hstep.symm.trans (step_of_instrAtPc hready hi)).trans hrun
    cases hsame
    exact .inl ⟨t, hstep, hrunState.trans hready, by omega, by omega⟩

section
variable {s t : State} (fuel : Nat)

theorem executeLoop_of_spent (hspent : s.cyc ≤ 0) : executeLoop fuel s = (none, s) := by
  cases fuel with
  | zero => rfl
  | succ fuel => rw [executeLoop, if_neg (Int.not_lt.2 hspent)]

theorem executeLoop_of_next (hpos : 0 < s.cyc) (hstep : step s = .next t) :
    executeLoop (fuel + 1) s = executeLoop fuel t := by
  rw [executeLoop, if_pos hpos, hstep]

theorem executeLoop_of_fault {opcode : Byte} {addr : Word} (hpos : 0 < s.cyc)
    (hstep : step s = .fault (.decodeError opcode addr)) :
    executeLoop (fuel + 1) s = (some (.decodeError opcode addr), s.raiseDecodeError opcode addr) := by
  rw [executeLoop, if_pos hpos, hstep]

end

/-! ### The loop -/

/-- `k` steps lead from `s` to `t`, each from a positive counter. -/
def State.RunsBudgeted (s : State) (k : Nat) (t : State) : Prop :=
  Sys2Proof.core.run k s = .next t ∧ ∀ j < k, ∃ u : State, Sys2Proof.core.run j s = .next u ∧ 0 < u.cyc

theorem State.runsBudgeted_zero (s : State) : s.RunsBudgeted 0 s :=
  ⟨rfl, fun j hj => absurd hj (Nat.not_lt_zero j)⟩

theorem run_succ_of_next {M : Host.Core} {s t : M.State} (hstep : M.step s = .next t) (k : Nat) :
    M.run (k + 1) s = M.run k t := by
  rw [Host.Core.run, hstep]

theorem State.runsBudgeted_succ {s t u : State} {k : Nat} (hpos : 0 < s.cyc) (hstep : step s = .next t)
    (h : t.RunsBudgeted k u) : s.RunsBudgeted (k + 1) u := by
  have hafter : ∀ j, Sys2Proof.core.run (j + 1) s = Sys2Proof.core.run j t := run_succ_of_next hstep
  obtain ⟨hrun, hbefore⟩ := h
  refine ⟨(hafter k).trans hrun, fun j hj => ?_⟩
  cases j with
  | zero => exact ⟨s, rfl, hpos⟩
  | succ j =>
    rw [hafter]
    exact hbefore j (Nat.lt_of_succ_lt_succ hj)

/-- With a step of fuel for every cycle of the counter the loop ends where rule R374 says. -/
theorem executeLoop_eq_budgeted (fuel : Nat) : ∀ s : State, s.runState = .ready → s.cyc ≤ fuel →
    ∃ k t, s.RunsBudgeted k t ∧
      ((t.cyc ≤ 0 ∧ executeLoop fuel s = (none, t)) ∨
        (0 < t.cyc ∧ ∃ opcode addr, step t = .fault (.decodeError opcode addr) ∧
          executeLoop fuel s = (some (.decodeError opcode addr), t.raiseDecodeError opcode addr))) := by
  induction fuel with
  | zero =>
    intro s _ hcyc
    exact ⟨0, s, s.runsBudgeted_zero, .inl ⟨hcyc, rfl⟩⟩
  | succ fuel ih =>
    intro s hready hcyc
    by_cases hpos : 0 < s.cyc
    · obtain ⟨t, hstep, ht, hleast, -⟩ | hstep := step_of_ready hready
      · obtain ⟨k, u, hruns, hend⟩ := ih t ht (by omega)
        rw [executeLoop_of_next fuel hpos hstep]
        exact ⟨k + 1, u, State.runsBudgeted_succ hpos hstep hruns, hend⟩
      · exact ⟨0, s, s.runsBudgeted_zero, .inr ⟨hpos, _, _, hstep, executeLoop_of_fault fuel hpos hstep⟩⟩
    · have hspent := Int.not_lt.1 hpos
      exact ⟨0, s, s.runsBudgeted_zero, .inl ⟨hspent, executeLoop_of_spent _ hspent⟩⟩

/-- Where the loop ends with the counter spent, its last step has overshot by at most 6 cycles (R377). -/
theorem executeLoop_overshoot (fuel : Nat) : ∀ s t : State, s.runState = .ready → s.cyc ≤ fuel → -6 ≤ s.cyc →
    executeLoop fuel s = (none, t) → t.cyc ≤ 0 ∧ -6 ≤ t.cyc := by
  induction fuel with
  | zero =>
    intro s t _ hcyc hlow hloop
    cases hloop
    exact ⟨hcyc, hlow⟩
  | succ fuel ih =>
    intro s t hready hcyc hlow hloop
    by_cases hpos : 0 < s.cyc
    · obtain ⟨u, hstep, hu, hleast, hmost⟩ | hstep := step_of_ready hready
      · rw [executeLoop_of_next fuel hpos hstep] at hloop
        exact ih u t hu (by omega) (by omega) hloop
      · rw [executeLoop_of_fault fuel hpos hstep] at hloop
        cases hloop
    · have hspent := Int.not_lt.1 hpos
      rw [executeLoop_of_spent _ hspent] at hloop
      cases hloop
      exact ⟨hspent, hlow⟩

/-! ### `execute` -/

section
variable {s t : State} {budget : Int}

theorem execute_of_not_ready (h : s.runState ≠ .ready) : s.execute budget = (.refused, s) := by
  unfold State.execute
  split
  next hready => exact absurd hready h
  · rfl
  · rfl

theorem execute_of_spent (hready : s.runState = .ready)
    (hloop : executeLoop budget.toNat { s with cyc := budget } = (none, t)) :
    s.execute budget = (.ok (budget - t.cyc), t.endCall) := by
  rw [hready] at hloop
  simp only [State.execute, hready, hloop]

theorem execute_of_fault {opcode : Byte} {addr : Word} (hready : s.runState = .ready)
    (hloop : executeLoop budget.toNat { s with cyc := budget } = (some (.decodeError opcode addr), t)) :
    s.execute budget = (.decodeError opcode addr, t.endCall) := by
  rw [hready] at hloop
  simp only [State.execute, hready, hloop]

end

/-- Settles O56: the fuel that `execute` gives its loop is the budget. -/
theorem executeIsTheBudgetedLoop : Obligations.ExecuteIsTheBudgetedLoop := by
  intro s budget hready
  obtain ⟨k, t, ⟨hrun, hbefore⟩, hend⟩ :=
    executeLoop_eq_budgeted budget.toNat { s with cyc := budget } hready (Int.self_le_toNat budget)
  refine ⟨k, t, hrun, hbefore, ?_⟩
  obtain ⟨hspent, hloop⟩ | ⟨hpos, opcode, addr, hstep, hloop⟩ := hend
  · exact .inl ⟨hspent, execute_of_spent hready hloop⟩
  · refine .inr ⟨hpos, opcode, addr, hstep, ?_⟩
    rw [execute_of_fault hready hloop, pcPast_eq]
    rfl

/-- Settles O57: only a ready core answers a number of cycles, and only where its loop spent the counter. -/
theorem executeOvershootsByAtMostSix : Obligations.ExecuteOvershootsByAtMostSix := by
  intro s t budget consumed hbudget hok
  by_cases hready : s.runState = .ready
  · cases hloop : executeLoop budget.toNat { s with cyc := budget } with
    | mk fault u =>
      obtain _ | ⟨opcode, addr⟩ := fault
      · rw [execute_of_spent hready hloop] at hok
        cases hok
        have hlow : (-6 : Int) ≤ budget := by omega
        obtain ⟨hspent, hshort⟩ :=
          executeLoop_overshoot budget.toNat { s with cyc := budget } u hready (Int.self_le_toNat budget) hlow hloop
        omega
      · rw [execute_of_fault hready hloop] at hok
        cases hok
  · rw [execute_of_not_ready hready] at hok
    cases hok

/-- Settles O58: a budget of 0 or less gives the loop no fuel. -/
theorem executeRefusesOrRunsNothing : Obligations.ExecuteRefusesOrRunsNothing := by
  refine ⟨fun s budget => execute_of_not_ready, fun s budget hready hbudget => ?_⟩
  have hloop : executeLoop budget.toNat { s with cyc := budget } = (none, { s with cyc := budget }) :=
    executeLoop_of_spent _ hbudget
  rw [execute_of_spent hready hloop, sub_self]
  rfl

end Sys2Proof.Machine
end

section
/-! PROOF. What the host does between steps (70_reset_and_hazards.md): reset, the loader and the writes. -/

namespace Sys2Proof.Machine

theorem Status.pack_clear : Status.pack ⟨false, false, false, false, false, false, false, false⟩ = 0 := by decide

/-- Settles O8: reset is a literal state; every cell of reset memory reads 0x00 by `Memory.read_reset`. -/
theorem resetClearsEverything : Obligations.ResetClearsEverything := fun _ entry =>
  ⟨rfl, rfl, rfl, rfl, rfl, rfl, Status.pack_clear, Memory.read_reset entry, rfl, rfl, rfl, rfl⟩

/-- Settles O9: reset memory lists no cell. -/
theorem resetStateIsSound : Obligations.ResetStateIsSound :=
  ⟨⟨Memory.reset_wf 0x0000, rfl⟩, fun _ entry => ⟨Memory.reset_wf entry, rfl⟩⟩

/-! ### The loader -/

/-- Settles O59, by the laws of placing bytes; only an image of two bytes or more has an address. -/
theorem loaderPlacesTheImage : Obligations.LoaderPlacesTheImage := by
  refine ⟨fun s lo hi program => ?_, fun s image hshort => ?_⟩
  · exact ⟨{ s with mem := s.mem.place (leWord lo hi) program }, rfl, rfl,
      Memory.read_place_at program s.mem (leWord lo hi), Memory.read_place_other program s.mem (leWord lo hi)⟩
  · match image, hshort with
    | [], _ => rfl
    | [_], _ => rfl

/-! ### Host writes -/

section
variable {s : State} (w : HostWrite)

theorem hostWrite_of_ready (h : s.runState = .ready) : s.hostWrite w = .next (s.written w) := by
  simp only [State.hostWrite, h]

theorem hostWrite_of_not_ready (h : s.runState ≠ .ready) : s.hostWrite w = .refused .notReady := by
  unfold State.hostWrite
  split
  next hready => exact absurd hready h
  · rfl
  · rfl

/-- The host has no flag write for U (R380). -/
theorem written_unused (s : State) : (s.written w).p.u = s.p.u := by
  cases w with
  | flag which value => cases which <;> rfl
  | a | x | y | sp | pc | cell => rfl

end

/-- Settles O60: of the writes only that of a cell needs a law, a read after a write. -/
theorem hostWritesOneField : Obligations.HostWritesOneField := by
  refine ⟨fun s w => hostWrite_of_not_ready w, fun s w hready => ?_, fun s hready => ?_⟩
  · exact ⟨_, hostWrite_of_ready w hready, written_unused w s⟩
  · have hwrite : ∀ w, s.hostWrite w = .next (s.written w) := fun w => hostWrite_of_ready w hready
    exact ⟨fun _ => hwrite _, fun _ => hwrite _, fun _ => hwrite _, fun _ => hwrite _, fun _ => hwrite _,
      fun _ => hwrite _, fun _ => hwrite _, fun _ => hwrite _, fun _ => hwrite _, fun _ => hwrite _,
      fun _ => hwrite _, fun _ => hwrite _, fun addr v =>
        ⟨s.mem.write addr v, hwrite _, s.mem.read_write_same addr v, fun _ => s.mem.read_write_other v⟩⟩

end Sys2Proof.Machine
end
